-- ==== Sys2Proof/Word.lean ====
section
/-! DEFINITION. The word types of the engine. Every value is an unsigned bit vector, bit 0 the least significant (R11, R12). -/

namespace Sys2Proof

/-- A command word: 32 bits, one length for every command (R9, R70). -/
abbrev CmdWord := BitVec 32

/-- A 16-bit register, immediate or read value (R8, R9). -/
abbrev Half := BitVec 16

/-- One message byte (R8, R74). -/
abbrev Byte := BitVec 8

/-- A 4-bit field: an opcode, a read selector, a cause code (R9, R22). -/
abbrev Nibble := BitVec 4

end Sys2Proof
end

