-- ==== Sys2Proof/Config.lean ====
section
/-! DEFINITION. What is fixed when an engine is built: the polynomial (R2, R8), the build parameter
P_INIT_REFLECT (R10, D9), and the shape of an Algorithm configuration (R16, R18). The spec leaves no result
of the engine open, so there is no free value here. -/

namespace Sys2Proof

/-- The two values of the build parameter P_INIT_REFLECT (R10): whether the init stage reflects `init`
only when `refin` is 1, or always. -/
inductive InitReflect where
  /-- ON_REFIN, encoded 0, the spec's default. -/
  | onRefin
  /-- ALWAYS, encoded 1. -/
  | always
  deriving DecidableEq, Repr

/-- The source's configuration record of six parameters (R16, "Algorithm"). -/
structure Algorithm where
  init : Half
  refin : Bool
  refout : Bool
  xorout : Half
  check : Half
  residue : Half
  deriving DecidableEq, Repr

/-- The value P_INIT_REFLECT has where a build does not choose one (R10: "the default"). -/
def Config.defaultInitReflect : InitReflect := .onRefin

/-- The single fixed generator polynomial, MSB form (R2, R8). -/
def Config.polynomial : Half := 0x1021#16

/-- The same polynomial in the register's LSB-first convention (R105). -/
def Config.polynomialLsb : Half := 0x8408#16

/-- The configuration reset loads: the XMODEM parameter set with its check value (R230, R231). -/
def Config.resetAlgorithm : Algorithm :=
  { init := 0x0000#16, refin := false, refout := false, xorout := 0x0000#16,
    check := 0x31C3#16, residue := 0x0000#16 }

/-- The version tag a model uses where it needs one (R3, D1). -/
def Config.versionTag : String := "crc-0x8810-core/spec-v7"

end Sys2Proof
end

