-- ==== Sys2Proof/Syntax.lean ====
section
/-! DEFINITION. The commands (one constructor per row of spec/opcode_table.json), the outcome of decoding, the
causes of a command error, and the assembler's source lines (R75, R76, R81, R82, R200). -/

namespace Sys2Proof

/-- The nine commands of R75. Each operand has exactly the width of its field (R73), so every term is a
command the encoding admits. -/
inductive Instr where
  /-- NOP, opcode 0x0, layout Z (R130). -/
  | nop
  /-- SETINIT, opcode 0x1, layout H (R132). -/
  | setinit (imm16 : Half)
  /-- SETXOROUT, opcode 0x2, layout H (R134). -/
  | setxorout (imm16 : Half)
  /-- SETFLAGS, opcode 0x3, layout F (R136). -/
  | setflags (refin refout : Bool)
  /-- SETCHECK, opcode 0x4, layout H (R138). -/
  | setcheck (imm16 : Half)
  /-- SETRESIDUE, opcode 0x5, layout H (R140). -/
  | setresidue (imm16 : Half)
  /-- START, opcode 0x6, layout Z (R151). -/
  | start
  /-- UPDATE, opcode 0x7, layout B (R154). -/
  | update (byte : Byte)
  /-- FINAL, opcode 0x8, layout Z (R157). -/
  | final
  deriving DecidableEq, Repr

/-- The causes a command error can have (R200). The code 0x0, NONE, is the record's value while no error has
occurred and is raised by nothing; 0x4 to 0xF are never produced. -/
inductive Cause where
  /-- A word whose opcode is 0x9 to 0xF (R77). -/
  | illegalOp
  /-- A word with a defined opcode and a 1 in a reserved bit (R78). -/
  | reservedBits
  /-- A well-formed UPDATE or FINAL with no active digest (R201). -/
  | noDigest
  deriving DecidableEq, Repr

/-- What decoding a 32-bit word gives: a command or an error cause (R76). -/
inductive Decoded where
  | command (i : Instr)
  | error (c : Cause)
  deriving DecidableEq, Repr

/-- One row of the machine-readable opcode table (R75): a word `w` belongs to the row when
`w &&& mask = pattern`. -/
structure OpcodeRow where
  mnemonic : String
  pattern : CmdWord
  mask : CmdWord
  deriving DecidableEq, Repr

/-- One assembler line (R81), its operands the numbers the source wrote, of any size. -/
inductive AsmLine where
  | nop
  | setinit (imm16 : Nat)
  | setxorout (imm16 : Nat)
  | setflags (refin refout : Nat)
  | setcheck (imm16 : Nat)
  | setresidue (imm16 : Nat)
  | start
  | update (byte : Nat)
  | final
  /-- `.word 0xHHHHHHHH`: the word as given. -/
  | word (w : Nat)
  deriving DecidableEq, Repr

/-- The pseudo-instructions of R82; `cfg.NAME` is `cfg` with a catalog row's values. -/
inductive Pseudo where
  | cfg (init refin refout xorout check residue : Nat)
  | ubytes (bytes : List Nat)
  | ustr (text : List Char)
  | checksum (bytes : List Nat)
  deriving DecidableEq, Repr

/-- What one source line holds: nothing but a comment, one command, or a pseudo-instruction. -/
inductive SourceLine where
  /-- A blank or comment-only line. R81 does not say that there is one: DESIGN CHOICE, log entry 7. -/
  | blank
  | line (l : AsmLine)
  | pseudo (p : Pseudo)
  deriving DecidableEq, Repr

end Sys2Proof
end

