-- ==== Sys2Proof/WellFormed.lean ====
section
/-! DEFINITION. Well-formedness: of a command word (a defined opcode and no reserved bit set, R72, R75, R78),
and of an assembler line (every operand fits its field, R81). A term of Instr needs no check: its operand types
are exactly its fields. -/

namespace Sys2Proof

/-- The reserved bits of a word whose opcode is `op`: RSV in every command, and the IMM bits its layout
leaves unused (R72, R78). -/
def reservedMask (op : Nat) : CmdWord :=
  match op with
  | 0 => 0x0FFFFFFF#32  -- NOP, layout Z
  | 3 => 0x0FFFFFFC#32  -- SETFLAGS, layout F
  | 6 => 0x0FFFFFFF#32  -- START, layout Z
  | 7 => 0x0FFFFF00#32  -- UPDATE, layout B
  | 8 => 0x0FFFFFFF#32  -- FINAL, layout Z
  | _ => 0x0FFF0000#32  -- layout H

/-- The opcode is one of the nine defined ones (R75). -/
def opcodeDefined (w : CmdWord) : Bool := decide ((w >>> 28).toNat < 9)

/-- No reserved bit is set (R78). -/
def reservedClear (w : CmdWord) : Bool := w &&& reservedMask (w >>> 28).toNat == 0#32

/-- A word that is a command: R76 decodes every other word to an error. -/
def wellFormedWord (w : CmdWord) : Bool := opcodeDefined w && reservedClear w

/-- Every operand of an assembler line fits its field (R81: "An assembler rejects an operand that does not
fit its field"). -/
def AsmLine.fits : AsmLine → Bool
  | .nop => true
  | .setinit v => decide (v < 2 ^ 16)
  | .setxorout v => decide (v < 2 ^ 16)
  | .setflags i o => decide (i < 2) && decide (o < 2)
  | .setcheck v => decide (v < 2 ^ 16)
  | .setresidue v => decide (v < 2 ^ 16)
  | .start => true
  | .update b => decide (b < 2 ^ 8)
  | .final => true
  | .word w => decide (w < 2 ^ 32)

end Sys2Proof
end

