-- ==== Sys2Proof/Decode.lean ====
section
/-! DEFINITION. Decoding and encoding of command words (R70 to R80), and the opcode table's own rows (R75). -/

namespace Sys2Proof

/-- OP, bits 31:28 (R71). -/
def opField (w : CmdWord) : Nibble := w.extractLsb' 28 4

/-- RSV, bits 27:16 (R71). -/
def rsvField (w : CmdWord) : BitVec 12 := w.extractLsb' 16 12

/-- IMM, bits 15:0 (R71). -/
def immField (w : CmdWord) : Half := w.extractLsb' 0 16

/-- Layout Z: no operand, so every bit of IMM must be 0 (R72). -/
def decodeZ (i : Instr) (imm : Half) : Decoded :=
  if imm ≠ 0#16 then .error .reservedBits else .command i

/-- Layout F: bit 0 is `refin`, bit 1 is `refout`, bits 15:2 must be 0 (R72, R73). -/
def decodeF (imm : Half) : Decoded :=
  if imm.extractLsb' 2 14 ≠ 0#14 then .error .reservedBits
  else .command (.setflags (imm.getLsbD 0) (imm.getLsbD 1))

/-- Layout B: bits 7:0 are the message byte, bits 15:8 must be 0 (R72, R74). -/
def decodeB (imm : Half) : Decoded :=
  if imm.extractLsb' 8 8 ≠ 0#8 then .error .reservedBits
  else .command (.update (imm.extractLsb' 0 8))

/-- Decoding, total on every 32-bit word (R76). The order of the tests is the priority of R205: a reserved
opcode first, then RSV, then the must-be-zero bits of IMM. -/
def decode (w : CmdWord) : Decoded :=
  if 9 ≤ (opField w).toNat then .error .illegalOp
  else if rsvField w ≠ 0#12 then .error .reservedBits
  else match (opField w).toNat with
    | 0 => decodeZ .nop (immField w)
    | 1 => .command (.setinit (immField w))
    | 2 => .command (.setxorout (immField w))
    | 3 => decodeF (immField w)
    | 4 => .command (.setcheck (immField w))
    | 5 => .command (.setresidue (immField w))
    | 6 => decodeZ .start (immField w)
    | 7 => decodeB (immField w)
    | 8 => decodeZ .final (immField w)
    | _ => .error .illegalOp

/-- The opcode of each command (R75). -/
def Instr.opcode : Instr → Nibble
  | .nop => 0x0#4
  | .setinit _ => 0x1#4
  | .setxorout _ => 0x2#4
  | .setflags _ _ => 0x3#4
  | .setcheck _ => 0x4#4
  | .setresidue _ => 0x5#4
  | .start => 0x6#4
  | .update _ => 0x7#4
  | .final => 0x8#4

/-- The IMM field each command carries (R72, R73). -/
def Instr.imm : Instr → Half
  | .nop => 0#16
  | .setinit v => v
  | .setxorout v => v
  | .setflags i o => ((BitVec.ofBool o).setWidth 16 <<< 1) ||| (BitVec.ofBool i).setWidth 16
  | .setcheck v => v
  | .setresidue v => v
  | .start => 0#16
  | .update b => b.setWidth 16
  | .final => 0#16

/-- The word of a command: OP in bits 31:28, RSV = 0, IMM in bits 15:0 (R71). -/
def encode (i : Instr) : CmdWord := (i.opcode.setWidth 32 <<< 28) ||| i.imm.setWidth 32

/-- The rows of the opcode table (R75; spec/opcode_table.json). -/
def opcodeTable : List OpcodeRow :=
  [ ⟨"NOP", 0x00000000#32, 0xFFFFFFFF#32⟩,
    ⟨"SETINIT", 0x10000000#32, 0xFFFF0000#32⟩,
    ⟨"SETXOROUT", 0x20000000#32, 0xFFFF0000#32⟩,
    ⟨"SETFLAGS", 0x30000000#32, 0xFFFFFFFC#32⟩,
    ⟨"SETCHECK", 0x40000000#32, 0xFFFF0000#32⟩,
    ⟨"SETRESIDUE", 0x50000000#32, 0xFFFF0000#32⟩,
    ⟨"START", 0x60000000#32, 0xFFFFFFFF#32⟩,
    ⟨"UPDATE", 0x70000000#32, 0xFFFFFF00#32⟩,
    ⟨"FINAL", 0x80000000#32, 0xFFFFFFFF#32⟩ ]

/-- A word belongs to a row (R80). -/
def OpcodeRow.accepts (r : OpcodeRow) (w : CmdWord) : Bool := w &&& r.mask == r.pattern

/-- The mnemonic of a command, as the opcode table spells it (R75). -/
def Instr.mnemonic : Instr → String
  | .nop => "NOP"
  | .setinit _ => "SETINIT"
  | .setxorout _ => "SETXOROUT"
  | .setflags _ _ => "SETFLAGS"
  | .setcheck _ => "SETCHECK"
  | .setresidue _ => "SETRESIDUE"
  | .start => "START"
  | .update _ => "UPDATE"
  | .final => "FINAL"

/-- The command a decode gives, if it gives one. -/
def Decoded.command? : Decoded → Option Instr
  | .command i => some i
  | .error _ => none

/-- The 32-bit word a table row's `nbits` bits `w` stand for: the bits above `nbits` are 0. A command is one
word taken whole from the port, so no byte order applies (R63, R70). -/
def tableWord (nbits w : Nat) : CmdWord := BitVec.ofNat 32 (w % 2 ^ nbits)

/-- The instruction the decoder reads from a word numbered as the opcode table numbers its bits. -/
def decodeTableWord (nbits w : Nat) : Option Instr := (decode (tableWord nbits w)).command?

end Sys2Proof
end

