-- ==== Sys2Proof/Machine/State.lean ====
section
/-! DEFINITION. The state of the engine (R22), the events on its pins (R68), the reset state (R230), and the
ways a step can stop: there is no fault, and the one refusal is never answered. -/

namespace Sys2Proof.Machine

/-- The inputs the engine's pins carry at one rising clock edge (R68). -/
structure Edge where
  /-- `rst`: synchronous reset, active high. -/
  rst : Bool
  /-- `cmd_valid`: a command word is presented. -/
  cmdValid : Bool
  /-- `cmd_data`: the command word. -/
  cmdData : CmdWord
  /-- `rd_sel`: the read selector. It drives `rd_data` and changes no state (R54). -/
  rdSel : Nibble
  deriving DecidableEq, Repr

/-- Everything the spec gives the engine (R22, "Nothing else persists between commands"), the build parameter
that R10 makes an argument of the model, and the model's own list of the edges to come. -/
structure State where
  /-- CFG_INIT (R23). -/
  cfgInit : Half
  /-- CFG_XOROUT (R24). -/
  cfgXorout : Half
  /-- CFG_REFIN (R25). -/
  cfgRefin : Bool
  /-- CFG_REFOUT (R25). -/
  cfgRefout : Bool
  /-- CFG_CHECK (R26). -/
  cfgCheck : Half
  /-- CFG_RESIDUE (R27). -/
  cfgResidue : Half
  /-- VALUE, the running register, held LSB-first (R29). -/
  value : Half
  /-- RESULT, the output of the last FINAL (R30). -/
  result : Half
  /-- ACT_REFIN, the digest's copy of CFG_REFIN (R31). -/
  actRefin : Bool
  /-- ACT_REFOUT, the digest's copy of CFG_REFOUT (R31). -/
  actRefout : Bool
  /-- ACT_XOROUT, the digest's copy of CFG_XOROUT (R31). -/
  actXorout : Half
  /-- STATUS.ACTIVE (R33). -/
  active : Bool
  /-- STATUS.RVALID (R34). -/
  rvalid : Bool
  /-- STATUS.ERR, sticky (R35). -/
  err : Bool
  /-- STATUS.ERRCAUSE, the code of the first error since reset (R35). -/
  errCause : Nibble
  /-- P_INIT_REFLECT: fixed when the engine is built; nothing writes it, reset included (R10, R36). It stands in
  the state so that one step takes it as an argument. DESIGN CHOICE, log entry 2. -/
  pInitReflect : InitReflect
  /-- The MODEL's own field: what the host will put on the pins at the edges to come, next edge first. It is no
  storage of the engine (R60). DESIGN CHOICE, log entry 1. -/
  port : List Edge
  deriving DecidableEq, Repr

/-- The faults of a step. The engine has none: "The engine never stalls, hangs or refuses a word" (R150), and a
command error is a record after which it goes on (R203, R207). Nobody raises one, so the type is empty (log
entry 3: safe, and exact). -/
inductive Fault where
  deriving DecidableEq, Repr

/-- The refusals of a step. -/
inductive Refusal where
  /-- Raised by an arm of exec that has no meaning yet, of which there is none (safe). -/
  | notModelled (mnemonic : String)
  deriving DecidableEq, Repr

/-- The state right after reset of an engine built with `p` (R230; PARAMS is not affected by reset, R36), with
nothing yet presented on its port. -/
def State.resetWith (p : InitReflect) : State where
  cfgInit := Config.resetAlgorithm.init
  cfgXorout := Config.resetAlgorithm.xorout
  cfgRefin := Config.resetAlgorithm.refin
  cfgRefout := Config.resetAlgorithm.refout
  cfgCheck := Config.resetAlgorithm.check
  cfgResidue := Config.resetAlgorithm.residue
  value := 0x0000#16
  result := 0x0000#16
  actRefin := false
  actRefout := false
  actXorout := 0x0000#16
  active := false
  rvalid := false
  err := false
  errCause := 0x0#4
  pInitReflect := p
  port := []

/-- The machine right after reset, built with the default P_INIT_REFLECT (R10, R230). -/
def State.reset : State := State.resetWith Config.defaultInitReflect

end Sys2Proof.Machine
end

