-- ==== Sys2Proof/Machine/Flags.lean ====
section
/-! DEFINITION. The status bits: cause codes, the STATUS word, and the three ways its fields change (R32 to
R37, R200). -/

namespace Sys2Proof.Machine

/-- The code of a cause (R200). -/
def causeCode : Cause → Nibble
  | .illegalOp => 0x1#4
  | .reservedBits => 0x2#4
  | .noDigest => 0x3#4

/-- STATUS, read selector 0x0: eight zeros, ERRCAUSE, a zero, ERR, RVALID, ACTIVE from the top (R32). -/
def State.statusWord (s : State) : Half :=
  (0#8 ++ s.errCause ++ 0#1 ++ BitVec.ofBool s.err ++ BitVec.ofBool s.rvalid ++ BitVec.ofBool s.active).cast rfl

/-- START's status writes: ACTIVE <- 1, RVALID <- 0 (R151). -/
def State.markStarted (s : State) : State := { s with active := true, rvalid := false }

/-- FINAL's status writes: ACTIVE <- 0, RVALID <- 1 (R157). -/
def State.markFinished (s : State) : State := { s with active := false, rvalid := true }

/-- The sticky record: the first error sets ERR and its cause, a later one changes nothing (R35). -/
def State.recordError (s : State) (c : Cause) : State :=
  if s.err then s else { s with err := true, errCause := causeCode c }

end Sys2Proof.Machine
end

