-- ==== Sys2Proof/Machine/Ops.lean ====
section
/-! DEFINITION. The named operations the meanings share: one write per register, the snapshot, raising a
command error, the guard on an active digest, and reset. The engine has no memory (R50), so none acts on one. -/

namespace Sys2Proof.Machine

/-- CFG_INIT <- v (R132). -/
def State.writeInit (s : State) (v : Half) : State := { s with cfgInit := v }

/-- CFG_XOROUT <- v (R134). -/
def State.writeXorout (s : State) (v : Half) : State := { s with cfgXorout := v }

/-- CFG_REFIN <- i and CFG_REFOUT <- o together (R136). -/
def State.writeFlags (s : State) (i o : Bool) : State := { s with cfgRefin := i, cfgRefout := o }

/-- CFG_CHECK <- v (R138). -/
def State.writeCheck (s : State) (v : Half) : State := { s with cfgCheck := v }

/-- CFG_RESIDUE <- v (R140). -/
def State.writeResidue (s : State) (v : Half) : State := { s with cfgResidue := v }

/-- VALUE <- v (R29). -/
def State.writeValue (s : State) (v : Half) : State := { s with value := v }

/-- RESULT <- v (R30). -/
def State.writeResult (s : State) (v : Half) : State := { s with result := v }

/-- START's copy of the configuration into the hidden snapshot (R31). CFG_INIT is not copied. -/
def State.takeSnapshot (s : State) : State :=
  { s with actRefin := s.cfgRefin, actRefout := s.cfgRefout, actXorout := s.cfgXorout }

/-- `raise CmdError(c)`, the engine's one exception (R203): the record of R35 and nothing else. No address or
mode is saved and nothing is redirected (R209), so there is no return from it (R210): only reset clears the
record. -/
def raiseCmdError (c : Cause) (s : State) : Host.Outcome State Fault Refusal := .next (s.recordError c)

/-- Run `k` when a digest is active, otherwise raise NO_DIGEST and do nothing else (R150, R201). -/
def requireDigest (k : State → State) (s : State) : Host.Outcome State Fault Refusal :=
  if s.active then .next (k s) else raiseCmdError .noDigest s

/-- The registers' reset (R230). The build parameter is not affected (R36), and what the host will present at
later edges is the host's. -/
def State.applyReset (s : State) : State := { State.resetWith s.pInitReflect with port := s.port }

/-- The edges still to come, replaced. -/
def State.withPort (s : State) (es : List Edge) : State := { s with port := es }

end Sys2Proof.Machine
end

