-- ==== Sys2Proof/Machine/Configuration.lean ====
section
/-! DEFINITION. The meanings of NOP and the five configuration commands (spec/41_configuration.md). Each is legal
whether or not a digest is active and writes only its own registers (R131). -/

namespace Sys2Proof.Machine

/-- NOP: no state change (R130). -/
def execNop (s : State) : Host.Outcome State Fault Refusal := .next s

/-- SETINIT: CFG_INIT <- imm16, stored unreflected (R132). -/
def execSetinit (imm16 : Half) (s : State) : Host.Outcome State Fault Refusal := .next (s.writeInit imm16)

/-- SETXOROUT: CFG_XOROUT <- imm16 (R134). -/
def execSetxorout (imm16 : Half) (s : State) : Host.Outcome State Fault Refusal := .next (s.writeXorout imm16)

/-- SETFLAGS: CFG_REFIN and CFG_REFOUT in one command (R136). -/
def execSetflags (refin refout : Bool) (s : State) : Host.Outcome State Fault Refusal :=
  .next (s.writeFlags refin refout)

/-- SETCHECK: CFG_CHECK <- imm16, stored and never compared (R138). -/
def execSetcheck (imm16 : Half) (s : State) : Host.Outcome State Fault Refusal := .next (s.writeCheck imm16)

/-- SETRESIDUE: CFG_RESIDUE <- imm16, stored and never used (R140). -/
def execSetresidue (imm16 : Half) (s : State) : Host.Outcome State Fault Refusal := .next (s.writeResidue imm16)

end Sys2Proof.Machine
end

