-- ==== Sys2Proof/Machine/Datapath.lean ====
section
/-! DEFINITION. The pure functions of spec/40_datapath.md: the reflector, the bit-serial primitive with its
reference, the three stages around it, and the message function. Each is total on its whole width. -/

namespace Sys2Proof.Machine

/-- `reflect8`: bit `i` of the result is bit `7 - i` of `b` (R100). -/
def reflect8 (b : Byte) : Byte := b.reverse

/-- `reflect16`: bit `i` of the result is bit `15 - i` of `w` (R101). -/
def reflect16 (w : Half) : Half := w.reverse

/-- The source's closed-form byte update (R103), step by step in the rule's own names. -/
def prim (crc : Half) (data : Byte) : Half :=
  let c1 : Byte := data ^^^ crc.extractLsb' 0 8
  let c2 : Byte := c1 ^^^ (c1 <<< 4)
  let n1 : Half := (c2.setWidth 16 <<< 8) ||| (crc >>> 8)
  let n2 : Half := n1 ^^^ (c2 >>> 4).setWidth 16
  n2 ^^^ (c2.setWidth 16 <<< 3)

/-- One step of the reference shift register: one bit enters at bit 0's end (R105). -/
def bitstep (r : Half) (bit : Bool) : Half :=
  if r.getLsbD 0 ^^ bit then (r >>> 1) ^^^ Config.polynomialLsb else r >>> 1

/-- The reference bit-serial update: eight steps, bit 0 of the byte first (R105). -/
def bitserial8 (r : Half) (data : Byte) : Half :=
  (List.range 8).foldl (fun r i => bitstep r (data.getLsbD i)) r

/-- The reference's other form: XOR the byte into the low byte, then eight plain shift steps (R105). -/
def xorThenShift8 (r : Half) (data : Byte) : Half :=
  (List.range 8).foldl (fun r _ => bitstep r false) (r ^^^ data.setWidth 16)

/-- One step of the MSB-first shift register by which unreflected variants are usually described (R166).
PRESUMED, log entry 9: the spec marks this description general knowledge. -/
def msbstep (r : Half) (bit : Bool) : Half :=
  if r.getLsbD 15 ^^ bit then (r <<< 1) ^^^ Config.polynomial else r <<< 1

/-- Eight MSB-first steps, bit 7 of the byte first. PRESUMED, log entry 9. -/
def msbserial8 (r : Half) (data : Byte) : Half :=
  (List.range 8).foldl (fun r i => msbstep r (data.getLsbD (7 - i))) r

/-- The init stage (R111). -/
def initValue (p : InitReflect) (refin : Bool) (init : Half) : Half :=
  if p = .always ∨ refin = true then reflect16 init else init

/-- The feed stage: what a message byte becomes before the primitive (R113). -/
def feed (refin : Bool) (b : Byte) : Byte :=
  if refin then b else reflect8 b

/-- The finalize stage: reflect unless `refout`, and only then XOR (R114). -/
def finish (refout : Bool) (xorout v : Half) : Half :=
  (if refout then v else reflect16 v) ^^^ xorout

/-- Fold the primitive over message bytes in order (R55, R116). -/
def foldBytes (refin : Bool) (v : Half) (m : List Byte) : Half :=
  m.foldl (fun v b => prim v (feed refin b)) v

/-- The message function `crc(m)` of a configuration (R116). It reads the four computing fields only. -/
def crc (p : InitReflect) (a : Algorithm) (m : List Byte) : Half :=
  finish a.refout a.xorout (foldBytes a.refin (initValue p a.refin a.init) m)

end Sys2Proof.Machine
end

