-- ==== Sys2Proof/Machine/Operands.lean ====
section
/-! DEFINITION. The stages of the datapath as the commands call them: which registers feed each one (R111,
R113, R114), and the configuration registers read as one Algorithm (R18). The fields of a command word are in
Decode. -/

namespace Sys2Proof.Machine

/-- `init_value()`: the init stage over CFG_INIT, CFG_REFIN and P_INIT_REFLECT (R111). -/
def State.initStage (s : State) : Half := initValue s.pInitReflect s.cfgRefin s.cfgInit

/-- The primitive on VALUE and a message byte fed by the snapshot's ACT_REFIN (R113, R154). -/
def State.foldStage (s : State) (b : Byte) : Half := prim s.value (feed s.actRefin b)

/-- The finalize stage over VALUE and the snapshot (R114, R157). -/
def State.finalStage (s : State) : Half := finish s.actRefout s.actXorout s.value

/-- The configuration registers as the source's Algorithm record (R18, R23 to R27). -/
def State.algorithm (s : State) : Algorithm where
  init := s.cfgInit
  refin := s.cfgRefin
  refout := s.cfgRefout
  xorout := s.cfgXorout
  check := s.cfgCheck
  residue := s.cfgResidue

end Sys2Proof.Machine
end

