-- ==== Sys2Proof/Machine/Digest.lean ====
section
/-! DEFINITION. The meanings of the digest commands START, UPDATE and FINAL (spec/42_digest.md). -/

namespace Sys2Proof.Machine

/-- START: load VALUE from the init stage, take the snapshot, mark the digest active and RESULT stale (R151). A
running digest is abandoned with no error (R152). -/
def execStart (s : State) : Host.Outcome State Fault Refusal :=
  .next ((s.writeValue s.initStage).takeSnapshot.markStarted)

/-- UPDATE: fold one message byte into VALUE, or NO_DIGEST (R154). -/
def execUpdate (byte : Byte) (s : State) : Host.Outcome State Fault Refusal :=
  requireDigest (fun s => s.writeValue (s.foldStage byte)) s

/-- FINAL: write RESULT, end the digest, mark RESULT valid, or NO_DIGEST; VALUE stays (R157). -/
def execFinal (s : State) : Host.Outcome State Fault Refusal :=
  requireDigest (fun s => (s.writeResult s.finalStage).markFinished) s

end Sys2Proof.Machine
end

