-- ==== Sys2Proof/Machine/Dispatch.lean ====
section
/-! DEFINITION. One arm per command of the opcode table (R75, R150). -/

namespace Sys2Proof.Machine

def exec (i : Instr) (s : State) : Host.Outcome State Fault Refusal :=
  match i with
  | .nop => Sys2Proof.Machine.execNop s
  | .setinit imm16 => Sys2Proof.Machine.execSetinit imm16 s
  | .setxorout imm16 => Sys2Proof.Machine.execSetxorout imm16 s
  | .setflags refin refout => Sys2Proof.Machine.execSetflags refin refout s
  | .setcheck imm16 => Sys2Proof.Machine.execSetcheck imm16 s
  | .setresidue imm16 => Sys2Proof.Machine.execSetresidue imm16 s
  | .start => Sys2Proof.Machine.execStart s
  | .update byte => Sys2Proof.Machine.execUpdate byte s
  | .final => Sys2Proof.Machine.execFinal s

end Sys2Proof.Machine
end

