-- ==== Sys2Proof/Machine/Ports.lean ====
section
/-! DEFINITION. The two ports (R51): the read port's selector map (R52, R53), the output pins (R68), and how a
command is put on the command port. -/

namespace Sys2Proof.Machine

/-- FLAGS, read selector 0x3: CFG_REFIN in bit 0, CFG_REFOUT in bit 1 (R25). -/
def State.flagsWord (s : State) : Half :=
  (0#14 ++ BitVec.ofBool s.cfgRefout ++ BitVec.ofBool s.cfgRefin).cast rfl

/-- P_INIT_REFLECT as its bit: ON_REFIN is 0, ALWAYS is 1 (R10). -/
def initReflectBit : InitReflect → BitVec 1
  | .onRefin => 0#1
  | .always => 1#1

/-- PARAMS, read selector 0x8 (R36). -/
def State.paramsWord (s : State) : Half := (0#15 ++ initReflectBit s.pInitReflect).cast rfl

/-- `read(sel)`: a function of the selector and the state, with no effect (R52, R54). Selectors 0x9 to 0xF are
reserved and read 0x0000 (R53; log entry 5). -/
def State.read (s : State) (sel : Nibble) : Half :=
  match sel.toNat with
  | 0 => s.statusWord
  | 1 => s.cfgInit
  | 2 => s.cfgXorout
  | 3 => s.flagsWord
  | 4 => s.cfgCheck
  | 5 => s.cfgResidue
  | 6 => s.value
  | 7 => s.result
  | 8 => s.paramsWord
  | _ => 0x0000#16

/-- `cmd_ready`: constant 1, whatever the state (R68, R240). -/
def State.cmdReady (_ : State) : Bool := true

/-- `rd_data` while the pins carry `e`: the selected value of the current state (R68). -/
def State.rdData (s : State) (e : Edge) : Half := s.read e.rdSel

/-- The edge at which the host presents the word `w` with reset inactive, so that it is accepted (R68). -/
def Edge.ofWord (w : CmdWord) : Edge where
  rst := false
  cmdValid := true
  cmdData := w
  rdSel := 0x0#4

/-- The state with the words `ws` presented at the next edges, one a clock, before what was to come. -/
def State.present (s : State) (ws : List CmdWord) : State := s.withPort (ws.map Edge.ofWord ++ s.port)

end Sys2Proof.Machine
end

