-- ==== Sys2Proof/Machine/Command.lean ====
section
/-! DEFINITION. What one accepted word does (R150), and what one rising clock edge does (R68, R230, R232). -/

namespace Sys2Proof.Machine

/-- The engine's step for an accepted word: run the command it decodes to, or raise its decode error (R76,
R150). -/
def acceptWord (w : CmdWord) (s : State) : Host.Outcome State Fault Refusal :=
  match decode w with
  | .command i => exec i s
  | .error c => raiseCmdError c s

/-- One rising edge with the pins at `e`: reset beats a command (R232), a presented command is accepted
(`cmd_ready` is constant 1), and an edge with neither changes nothing (R68). -/
def clockEdge (e : Edge) (s : State) : Host.Outcome State Fault Refusal :=
  if e.rst then .next s.applyReset
  else if e.cmdValid then acceptWord e.cmdData s
  else .next s

/-- Take the next edge off the port: its pins, and the state with the later edges left. With nothing more to
come the pins are idle (R68; log entry 1). -/
def nextEdge (s : State) : Option (Edge × State) :=
  match s.port with
  | [] => none
  | e :: es => some (e, s.withPort es)

/-- The engine run over accepted words, one a clock: the state after all of them, should each give a next
state (R55, R57). -/
def acceptWords : List CmdWord → State → Host.Outcome State Fault Refusal
  | [], s => .next s
  | w :: ws, s =>
    match acceptWord w s with
    | .next t => acceptWords ws t
    | .fault r => .fault r
    | .refused r => .refused r

end Sys2Proof.Machine
end

