-- ==== Sys2Proof/Machine/Step.lean ====
section
/-! DEFINITION. One step: one rising edge of `clk` (R68, R240). There is no program counter and nothing is
fetched from memory (R21): the next command is the one the host presents. -/

namespace Sys2Proof.Machine

/-- One clock edge. With nothing more on the port the edge is idle and changes nothing (R68). -/
def step (s : State) : Host.Outcome State Fault Refusal :=
  match nextEdge s with
  | none => .next s
  | some (e, t) => clockEdge e t

/-- The state with a table row's word presented at the very next edge. -/
def State.withFetchWord (s : State) (nbits w : Nat) : State := s.present [tableWord nbits w]

end Sys2Proof.Machine
end

