-- ==== Sys2Proof/Machine/Assembler.lean ====
section
/-! DEFINITION. The assembler of R81 and R82: from a source line to command words. It is the host's tool, no part
of the engine: a term of AsmLine or Pseudo is a line already read, and the lower half of the file reads text. -/

namespace Sys2Proof.Machine

/-- The word a line encodes, by R81's table; meant for lines whose operands fit. -/
def asmWord : AsmLine → CmdWord
  | .nop => 0x00000000#32
  | .setinit v => 0x10000000#32 ||| BitVec.ofNat 32 v
  | .setxorout v => 0x20000000#32 ||| BitVec.ofNat 32 v
  | .setflags i o => 0x30000000#32 ||| (BitVec.ofNat 32 o <<< 1) ||| BitVec.ofNat 32 i
  | .setcheck v => 0x40000000#32 ||| BitVec.ofNat 32 v
  | .setresidue v => 0x50000000#32 ||| BitVec.ofNat 32 v
  | .start => 0x60000000#32
  | .update b => 0x70000000#32 ||| BitVec.ofNat 32 b
  | .final => 0x80000000#32
  | .word w => BitVec.ofNat 32 w

/-- Assemble one line; an operand that does not fit its field is rejected (R81). -/
def assemble (l : AsmLine) : Option CmdWord := if l.fits then some (asmWord l) else none

/-- The command a line names; `.word` names none (R81). -/
def asmCommand : AsmLine → Option Instr
  | .nop => some .nop
  | .setinit v => some (.setinit (BitVec.ofNat 16 v))
  | .setxorout v => some (.setxorout (BitVec.ofNat 16 v))
  | .setflags i o => some (.setflags (i == 1) (o == 1))
  | .setcheck v => some (.setcheck (BitVec.ofNat 16 v))
  | .setresidue v => some (.setresidue (BitVec.ofNat 16 v))
  | .start => some .start
  | .update b => some (.update (BitVec.ofNat 8 b))
  | .final => some .final
  | .word _ => none

/-- The expansion of a pseudo-instruction (R82). -/
def expandPseudo : Pseudo → List AsmLine
  | .cfg i ri ro x c r => [.setinit i, .setflags ri ro, .setxorout x, .setcheck c, .setresidue r]
  | .ubytes bs => bs.map .update
  | .ustr text => text.map (fun c => .update c.toNat)
  | .checksum bs => .start :: (bs.map .update ++ [.final])

/-- The words one source line assembles to. One operand that does not fit rejects a pseudo-instruction whole, and a
blank line has no words (DESIGN CHOICE, log entry 7). -/
def assembleSource : SourceLine → Option (List CmdWord)
  | .blank => some []
  | .line l => (assemble l).map (fun w => [w])
  | .pseudo p => (expandPseudo p).mapM assemble

/-- The catalog of named variants behind `cfg.NAME`, each with its names in lower case (spec/95_test_vectors.md
section 1.1). PRESUMED, log entry 8: but for the check values and GENIBUS's init, the spec marks the parameters
general knowledge. -/
def catalog : List (List String × Algorithm) :=
  [ (["xmodem", "lora"], ⟨0x0000#16, false, false, 0x0000#16, 0x31C3#16, 0x0000#16⟩),
    (["kermit", "ccitt"], ⟨0x0000#16, true, true, 0x0000#16, 0x2189#16, 0x0000#16⟩),
    (["ibm-sdlc", "iso-hdlc", "iso-iec-14443-3-b", "x.25"],
      ⟨0xFFFF#16, true, true, 0xFFFF#16, 0x906E#16, 0xF0B8#16⟩),
    (["genibus"], ⟨0xFFFF#16, false, false, 0xFFFF#16, 0xD64E#16, 0x1D0F#16⟩),
    (["gsm"], ⟨0x0000#16, false, false, 0xFFFF#16, 0xCE3C#16, 0x1D0F#16⟩),
    (["ibm-3740", "autosar"], ⟨0xFFFF#16, false, false, 0x0000#16, 0x29B1#16, 0x0000#16⟩),
    (["iso-iec-14443-3-a"], ⟨0xC6C6#16, true, true, 0x0000#16, 0xBF05#16, 0x0000#16⟩) ]

/-- `cfg` with an Algorithm's values (R82). -/
def cfgOf (a : Algorithm) : Pseudo :=
  .cfg a.init.toNat a.refin.toNat a.refout.toNat a.xorout.toNat a.check.toNat a.residue.toNat

/-- The pieces of a source line. -/
inductive Token where
  | ident (name : List Char)
  | num (n : Nat)
  | text (cs : List Char)
  | comma
  | equals
  deriving DecidableEq, Repr

/-- Spaces and tabs separate the pieces of a line. DESIGN CHOICE, log entry 7. -/
def isBlank (c : Char) : Bool := c == ' ' || c == '\t'

/-- The characters a name or a number is made of: all but blanks and R81's punctuation. DESIGN CHOICE, log
entry 7. -/
def isAtom (c : Char) : Bool :=
  !(isBlank c || c == ',' || c == '=' || c == ';' || c == '"' || c == '\'')

/-- A digit's value in bases up to 16, in lower case. -/
def digitValue (c : Char) : Option Nat :=
  if '0'.toNat ≤ c.toNat && c.toNat ≤ '9'.toNat then some (c.toNat - '0'.toNat)
  else if 'a'.toNat ≤ c.toNat && c.toNat ≤ 'f'.toNat then some (c.toNat - 'a'.toNat + 10)
  else none

/-- A non-empty run of digits in a base. -/
def parseDigits (base : Nat) (ds : List Char) : Option Nat :=
  if ds.isEmpty then none
  else ds.foldlM (fun n c => (digitValue c).bind fun d => if d < base then some (n * base + d) else none) 0

/-- A number: `0x` hexadecimal, `0b` binary, or decimal (R81). -/
def parseNumber : List Char → Option Nat
  | '0' :: 'x' :: ds => parseDigits 16 ds
  | '0' :: 'b' :: ds => parseDigits 2 ds
  | ds => parseDigits 10 ds

/-- A name or a number, in lower case: mnemonics are case-insensitive (R81). That keys, catalog names, number
prefixes and digits are so too is a DESIGN CHOICE, log entry 7. -/
def parseAtom (cs : List Char) : Option Token :=
  let low := cs.map Char.toLower
  match low with
  | c :: _ => if c.isDigit then (parseNumber low).map .num else some (.ident low)
  | [] => none

/-- The pieces of a line (R81): a character literal stands for its ASCII code, and a `;` starts the comment.
DESIGN CHOICE, log entry 7, where R81 and R82 are silent: there are no escapes, so a backslash is itself, a double
quote always ends the text of a string, and a character literal holds any one character, a quote or a backslash
included; a `;` inside a literal starts no comment; a literal that is not closed, or holds a character that is not
ASCII, is rejected; pieces need no blank between them. The first argument bounds the recursion: one more than the
line's length is enough. -/
def lexLine : Nat → List Char → Option (List Token)
  | 0, _ => none
  | _ + 1, [] => some []
  | _ + 1, ';' :: _ => some []
  | n + 1, ',' :: cs => (lexLine n cs).map (.comma :: ·)
  | n + 1, '=' :: cs => (lexLine n cs).map (.equals :: ·)
  | n + 1, '\'' :: cs =>
    match cs with
    | c :: '\'' :: rest => if c.toNat < 128 then (lexLine n rest).map (.num c.toNat :: ·) else none
    | _ => none
  | n + 1, '"' :: cs =>
    match cs.dropWhile (· != '"') with
    | _ :: rest =>
      let body := cs.takeWhile (· != '"')
      if body.all (·.toNat < 128) then (lexLine n rest).map (.text body :: ·) else none
    | [] => none
  | n + 1, c :: cs =>
    if isBlank c then lexLine n cs
    else (parseAtom ((c :: cs).takeWhile isAtom)).bind fun t =>
      (lexLine n ((c :: cs).dropWhile isAtom)).map (t :: ·)

/-- One or more numbers separated by commas (R82), a character literal being a number like any other (R81). -/
def parseNums : List Token → Option (List Nat)
  | [.num n] => some [n]
  | .num n :: .comma :: ts => (parseNums ts).map (n :: ·)
  | _ => none

/-- `key=number` operands separated by commas, with all the given keys in that order.
DESIGN CHOICE, log entry 7. -/
def parseKeyed : List String → List Token → Option (List Nat)
  | [k], [.ident k', .equals, .num n] => if String.ofList k' = k then some [n] else none
  | k :: ks, .ident k' :: .equals :: .num n :: .comma :: ts =>
    if String.ofList k' = k then (parseKeyed ks ts).map (n :: ·) else none
  | _, _ => none

/-- A command with no operand. -/
def parseBare (l : AsmLine) (ts : List Token) : Option SourceLine := if ts = [] then some (.line l) else none

/-- A command with one number. -/
def parseOne (f : Nat → AsmLine) (ts : List Token) : Option SourceLine :=
  match ts with
  | [.num n] => some (.line (f n))
  | _ => none

/-- `cfg.NAME` for a name of the catalog (R82). That the aliases of a row are names of it is a DESIGN CHOICE, log
entry 7. -/
def parseNamed (m : List Char) (ts : List Token) : Option SourceLine :=
  match m, ts with
  | 'c' :: 'f' :: 'g' :: '.' :: name, [] =>
    (catalog.find? (fun r => r.1.contains (String.ofList name))).map (fun r => .pseudo (cfgOf r.2))
  | _, _ => none

/-- A line's mnemonic and operands (R81, R82). DESIGN CHOICE, log entry 7, where the rules are silent: a line with
no piece at all, blank or a comment only, is accepted and emits no word; `ustr ""` is accepted and emits none
either; `ubytes` needs a byte; `checksum` takes a string only if it is empty; `.word` takes any form of number. -/
def parseTokens : List Token → Option SourceLine
  | [] => some .blank
  | .ident m :: ts =>
    match String.ofList m with
    | "nop" => parseBare .nop ts
    | "start" => parseBare .start ts
    | "final" => parseBare .final ts
    | "setinit" => parseOne .setinit ts
    | "setxorout" => parseOne .setxorout ts
    | "setcheck" => parseOne .setcheck ts
    | "setresidue" => parseOne .setresidue ts
    | "update" => parseOne .update ts
    | ".word" => parseOne .word ts
    | "setflags" =>
      match parseKeyed ["refin", "refout"] ts with
      | some [i, o] => some (.line (.setflags i o))
      | _ => none
    | "cfg" =>
      match parseKeyed ["init", "refin", "refout", "xorout", "check", "residue"] ts with
      | some [i, ri, ro, x, c, r] => some (.pseudo (.cfg i ri ro x c r))
      | _ => none
    | "ubytes" => (parseNums ts).map (fun bs => .pseudo (.ubytes bs))
    | "ustr" =>
      match ts with
      | [.text cs] => some (.pseudo (.ustr cs))
      | _ => none
    | "checksum" =>
      match ts with
      | [.text []] => some (.pseudo (.checksum []))
      | _ => (parseNums ts).map (fun bs => .pseudo (.checksum bs))
    | _ => parseNamed m ts
  | _ => none

/-- Read one line of source text (R81). -/
def parseLine (src : String) : Option SourceLine :=
  (lexLine (src.toList.length + 1) src.toList).bind parseTokens

/-- Assemble one line of source text to its words (R81, R82). -/
def assembleText (src : String) : Option (List CmdWord) := (parseLine src).bind assembleSource

end Sys2Proof.Machine
end

