-- ==== Sys2Proof/Safety.lean ====
section
/-! DEFINITION. What a safe run is (R207), when RESULT may be read (R237), and the invariant every step keeps. -/

namespace Sys2Proof.Machine

/-- No command error since reset: the premise R207 lets a claim about a command sequence take at its end. -/
abbrev State.NoError (s : State) : Prop := s.err = false

/-- RESULT is meaningful only while RVALID is 1 (R237). -/
abbrev State.ResultMeaningful (s : State) : Prop := s.rvalid = true

/-- ERRCAUSE is NONE exactly while ERR is 0, and otherwise one of the three codes (R35, R200). -/
abbrev State.ErrorRecordOk (s : State) : Prop :=
  (s.err = false → s.errCause = 0x0#4) ∧
  (s.err = true → s.errCause = 0x1#4 ∨ s.errCause = 0x2#4 ∨ s.errCause = 0x3#4)

/-- A digest is never both active and finished (R33, R34). -/
abbrev State.LifecycleOk (s : State) : Prop := ¬(s.active = true ∧ s.rvalid = true)

/-- While RVALID is 1, RESULT is the finalize stage of VALUE and the snapshot, which nothing has changed since
the FINAL (R30, R31, R34, R157). -/
abbrev State.ResultOk (s : State) : Prop := s.rvalid = true → s.result = s.finalStage

/-- With no digest active and none finished there has been no START since reset, and the digest registers still
hold their reset values (R33, R34, R39). -/
abbrev State.UnstartedOk (s : State) : Prop :=
  s.active = false → s.rvalid = false →
    s.value = 0x0000#16 ∧ s.result = 0x0000#16 ∧
    s.actRefin = false ∧ s.actRefout = false ∧ s.actXorout = 0x0000#16

/-- The invariant of the engine. -/
abbrev State.Inv (s : State) : Prop := s.ErrorRecordOk ∧ s.LifecycleOk ∧ s.ResultOk ∧ s.UnstartedOk

/-- Two states agree on everything but the error record. -/
abbrev State.AgreeButError (s t : State) : Prop := { s with err := t.err, errCause := t.errCause } = t

/-- The five configuration commands (R131). -/
def isConfiguration : Instr → Bool
  | .nop => false
  | .setinit _ => true
  | .setxorout _ => true
  | .setflags _ _ => true
  | .setcheck _ => true
  | .setresidue _ => true
  | .start => false
  | .update _ => false
  | .final => false

/-- The message byte a word carries, if it is an UPDATE. -/
def messageByte (w : CmdWord) : Option Byte :=
  match decode w with
  | .command (.update b) => some b
  | _ => none

/-- The nine bytes of the check string "123456789" (R16, R142). -/
def checkString : List Byte := [0x31#8, 0x32#8, 0x33#8, 0x34#8, 0x35#8, 0x36#8, 0x37#8, 0x38#8, 0x39#8]

/-- The command sequence of the source's `checksum`: START, one UPDATE per byte, FINAL (R18, R82, R160). -/
def checksumWords (m : List Byte) : List CmdWord :=
  0x60000000#32 :: (m.map (fun b => 0x70000000#32 ||| b.setWidth 32) ++ [0x80000000#32])

end Sys2Proof.Machine
end

