-- ==== Sys2Proof/Certificates/Slice0/Obligations.lean ====
section
/-! DEFINITION. The statements for the provers, from the numbered rules of spec/. -/

open Sys2Proof Sys2Proof.Machine

/-! ### Encoding -/

/-- Decoding the word of a command gives that command back, for every operand its fields admit (R71 to R76). -/
def Obligations.DecodeOfEncodeIsTheCommand : Prop :=
  ∀ i : Instr, decode (encode i) = .command i

/-- A command has one word: a word that decodes to a command is that command's encoding (R71 to R76). -/
def Obligations.EncodeOfDecodeIsTheWord : Prop :=
  ∀ (w : CmdWord) (i : Instr), decode w = .command i → encode i = w

/-- R80's last sentence: a word lies in exactly one row of the opcode table, and decodes to a command of that
row, or it lies in none and decodes to an error. -/
def Obligations.EveryWordIsOfOneRowOrAnError : Prop :=
  ∀ w : CmdWord,
    (∃ r ∈ opcodeTable, r.accepts w = true ∧ (∀ q ∈ opcodeTable, q.accepts w = true → q = r) ∧
      ∃ i, decode w = .command i ∧ i.mnemonic = r.mnemonic) ∨
    ((∀ r ∈ opcodeTable, r.accepts w = false) ∧ ∃ c, decode w = .error c)

/-- R80's counts: how many words each row accepts, how many words are commands, how many are errors. -/
def Obligations.AcceptedWordCounts : Prop :=
  (∀ p ∈ opcodeTable.zip [1, 65536, 65536, 4, 65536, 65536, 1, 256, 1],
    Nat.card { w : CmdWord // p.1.accepts w = true } = p.2) ∧
  Nat.card { w : CmdWord // ∃ i, decode w = .command i } = 262407 ∧
  Nat.card { w : CmdWord // ∃ c, decode w = .error c } = 4294704889

/-- R77: a word decodes to ILLEGAL_OP exactly when its opcode is reserved, whatever its other 28 bits hold. -/
def Obligations.ReservedOpcodesAreIllegal : Prop :=
  ∀ w : CmdWord, decode w = .error .illegalOp ↔ 9 ≤ (w >>> 28).toNat

/-- R78: with a defined opcode, a 1 in RSV or in a must-be-zero bit of IMM is exactly what decodes to
RESERVED_BITS; and the rule's example. -/
def Obligations.ReservedBitsAreRefused : Prop :=
  (∀ w : CmdWord, opcodeDefined w = true → (decode w = .error .reservedBits ↔ reservedClear w = false)) ∧
  decode 0x70000141#32 = .error .reservedBits

/-- R83: the encoding example of each opcode, encoded and decoded. -/
def Obligations.EncodingExamples : Prop :=
  ∀ p ∈ [ (Instr.nop, 0x00000000#32), (.setinit 0xC6C6#16, 0x1000C6C6#32), (.setxorout 0xFFFF#16, 0x2000FFFF#32),
      (.setflags true true, 0x30000003#32), (.setflags false true, 0x30000002#32),
      (.setcheck 0x906E#16, 0x4000906E#32), (.setresidue 0xF0B8#16, 0x5000F0B8#32),
      (.start, 0x60000000#32), (.update 0x31#8, 0x70000031#32), (.final, 0x80000000#32) ],
    encode p.1 = p.2 ∧ decode p.2 = .command p.1

/-- R81's table: a line whose operands fit assembles to its command's word, `.word` to the word as given, and a
line with an operand that does not fit to nothing. -/
def Obligations.AssemblerEmitsTheEncodings : Prop :=
  (∀ (l : AsmLine) (i : Instr), l.fits = true → asmCommand l = some i → assemble l = some (encode i)) ∧
  (∀ w : Nat, w < 2 ^ 32 → assemble (.word w) = some (BitVec.ofNat 32 w)) ∧
  (∀ l : AsmLine, l.fits = false → assemble l = none)

/-- R82's expansions, as words: `checksum` is START, the bytes' UPDATEs and FINAL; `cfg` is its five commands in
their order; `ubytes` one UPDATE a byte. -/
def Obligations.PseudoInstructionsExpand : Prop :=
  (∀ m : List Byte, assembleSource (.pseudo (.checksum (m.map (·.toNat)))) = some (checksumWords m)) ∧
  (∀ m : List Byte, assembleSource (.pseudo (.ubytes (m.map (·.toNat)))) =
    some (m.map (fun b => encode (.update b)))) ∧
  (∀ a : Algorithm, assembleSource (.pseudo (cfgOf a)) =
    some [encode (.setinit a.init), encode (.setflags a.refin a.refout), encode (.setxorout a.xorout),
      encode (.setcheck a.check), encode (.setresidue a.residue)])

/-! ### Steps, edges and reset -/

/-- R150: at an edge where a command is accepted (R68), step is exec of the command its word decodes to, on the
state whose port has moved past that edge. The port is the model's own field (log entry 1). -/
def Obligations.StepRunsTheDecodedCommand : Prop :=
  ∀ (s : State) (e : Edge) (es : List Edge) (i : Instr),
    s.port = e :: es → e.rst = false → e.cmdValid = true → decode e.cmdData = .command i →
    step s = exec i { s with port := es }

/-- R76 and R35: at an edge where the accepted word decodes to an error, step records the cause, unless one is
recorded already, and changes nothing else. -/
def Obligations.StepRecordsADecodeError : Prop :=
  ∀ (s : State) (e : Edge) (es : List Edge) (c : Cause),
    s.port = e :: es → e.rst = false → e.cmdValid = true → decode e.cmdData = .error c →
    step s = .next { s with
      port := es, err := true,
      errCause := if s.err then s.errCause else
        match c with
        | .illegalOp => 0x1#4
        | .reservedBits => 0x2#4
        | .noDigest => 0x3#4 }

/-- R68: an edge with cmd_valid = 0 and rst = 0 changes nothing. With no further edge listed the pins are idle
(the model's choice, log entry 1). -/
def Obligations.IdleEdgeChangesNothing : Prop :=
  (∀ (s : State) (e : Edge) (es : List Edge), s.port = e :: es → e.rst = false → e.cmdValid = false →
    step s = .next { s with port := es }) ∧
  (∀ s : State, s.port = [] → step s = .next s)

/-- R230 and R232: an edge with rst = 1 leaves every register at its reset value, whatever command is on the pins
and whatever the engine was doing, and P_INIT_REFLECT as built (R36). -/
def Obligations.ResetEdgeGivesResetValues : Prop :=
  ∀ (s : State) (e : Edge) (es : List Edge), s.port = e :: es → e.rst = true →
    step s = .next {
      cfgInit := 0x0000#16, cfgXorout := 0x0000#16, cfgRefin := false, cfgRefout := false,
      cfgCheck := 0x31C3#16, cfgResidue := 0x0000#16, value := 0x0000#16, result := 0x0000#16,
      actRefin := false, actRefout := false, actXorout := 0x0000#16, active := false, rvalid := false,
      err := false, errCause := 0x0#4, pInitReflect := s.pInitReflect, port := es }

/-- R231: the reset configuration (init, refin, refout, xorout, check, residue), and that it computes its own check value over "123456789" in both builds. -/
def Obligations.ResetConfigurationIsXmodem : Prop :=
  State.reset.algorithm = ⟨0x0000#16, false, false, 0x0000#16, 0x31C3#16, 0x0000#16⟩ ∧
  ∀ p : InitReflect, (State.resetWith p).algorithm = State.reset.algorithm ∧
    ∃ t, acceptWords (checksumWords checkString) (State.resetWith p) = .next t ∧ t.result = 0x31C3#16

/-- R230, R22: the registers beside the configuration hold zero at reset. The empty port and the default
P_INIT_REFLECT there are the model's choice (log entries 1 and 2). -/
def Obligations.ResetStateHoldsTheSpecsValues : Prop :=
  State.reset.value = 0x0000#16 ∧ State.reset.result = 0x0000#16 ∧
  State.reset.actRefin = false ∧ State.reset.actRefout = false ∧ State.reset.actXorout = 0x0000#16 ∧
  State.reset.active = false ∧ State.reset.rvalid = false ∧ State.reset.err = false ∧
  State.reset.errCause = 0x0#4 ∧ State.reset.pInitReflect = .onRefin ∧ State.reset.port = []

/-- R150: "Every word and every state yield exactly one next state": no word is refused and none stops the engine,
and neither does any edge. -/
def Obligations.EveryWordAndEveryEdgeAnswers : Prop :=
  (∀ (w : CmdWord) (s : State), ∃ t, acceptWord w s = .next t) ∧ ∀ s : State, ∃ t, step s = .next t

/-- R55, R240: words presented one a clock are executed one at a time, in order, none dropped or repeated, each
complete at its own edge. -/
def Obligations.PresentedWordsExecuteInOrder : Prop :=
  ∀ (ws : List CmdWord) (s : State), Host.Core.run Sys2Proof.core ws.length (s.present ws) = acceptWords ws s

/-! ### Configuration commands and NOP -/

/-- R130: NOP changes nothing in any state; its only word is 0x0000_0000, and any other word of its opcode is
RESERVED_BITS. -/
def Obligations.NopChangesNothing : Prop :=
  (∀ s : State, exec .nop s = .next s) ∧
  (∀ w : CmdWord, decode w = .command .nop ↔ w = 0x00000000#32) ∧
  (∀ w : CmdWord, w >>> 28 = 0x0#32 → w &&& 0x0FFFFFFF#32 ≠ 0#32 → decode w = .error .reservedBits)

/-- R132: SETINIT writes CFG_INIT, unreflected, and nothing else, in any state; its words; its error. -/
def Obligations.SetinitWritesCfgInit : Prop :=
  (∀ (v : Half) (s : State), exec (.setinit v) s = .next { s with cfgInit := v }) ∧
  (∀ v : Half, decode (0x10000000#32 ||| v.setWidth 32) = .command (.setinit v)) ∧
  (∀ w : CmdWord, w >>> 28 = 0x1#32 → w &&& 0x0FFF0000#32 ≠ 0#32 → decode w = .error .reservedBits) ∧
  (∀ s : State, s.cfgRefin = true →
    ∃ t, acceptWords [0x1000C6C6#32, 0x60000000#32] s = .next t ∧ t.cfgInit = 0xC6C6#16 ∧ t.value = 0x6363#16)

/-- R134: SETXOROUT writes CFG_XOROUT and nothing else, in any state; its words; its error; the value is used
unreflected, after any reflection, by the digest the next START begins. -/
def Obligations.SetxoroutWritesCfgXorout : Prop :=
  (∀ (v : Half) (s : State), exec (.setxorout v) s = .next { s with cfgXorout := v }) ∧
  (∀ v : Half, decode (0x20000000#32 ||| v.setWidth 32) = .command (.setxorout v)) ∧
  (∀ w : CmdWord, w >>> 28 = 0x2#32 → w &&& 0x0FFF0000#32 ≠ 0#32 → decode w = .error .reservedBits) ∧
  (∀ (v : Half) (s : State), ∃ t,
    acceptWords [0x20000000#32 ||| v.setWidth 32, 0x60000000#32, 0x80000000#32] s = .next t ∧
    t.result = (if s.cfgRefout then t.value else reflect16 t.value) ^^^ v)

/-- R136: SETFLAGS writes CFG_REFIN and CFG_REFOUT in one command and nothing else, in any state and for all four
combinations; its words; its error. -/
def Obligations.SetflagsWritesBothFlags : Prop :=
  (∀ (i o : Bool) (s : State), exec (.setflags i o) s = .next { s with cfgRefin := i, cfgRefout := o }) ∧
  (∀ i o : Bool, decode (0x30000000#32 ||| ((BitVec.ofBool o).setWidth 32 <<< 1) ||| (BitVec.ofBool i).setWidth 32) =
    .command (.setflags i o)) ∧
  (∀ w : CmdWord, w >>> 28 = 0x3#32 → w &&& 0x0FFFFFFC#32 ≠ 0#32 → decode w = .error .reservedBits)

/-- R138: SETCHECK writes CFG_CHECK and nothing else, in any state; its words; its error; and no word uses
CFG_CHECK: on an engine with another value there it does the same to everything else. -/
def Obligations.SetcheckWritesCfgCheck : Prop :=
  (∀ (v : Half) (s : State), exec (.setcheck v) s = .next { s with cfgCheck := v }) ∧
  (∀ v : Half, decode (0x40000000#32 ||| v.setWidth 32) = .command (.setcheck v)) ∧
  (∀ w : CmdWord, w >>> 28 = 0x4#32 → w &&& 0x0FFF0000#32 ≠ 0#32 → decode w = .error .reservedBits) ∧
  (∀ (w : CmdWord) (v : Half) (s t : State), acceptWord w s = .next t →
    ∃ u, acceptWord w { s with cfgCheck := v } = .next { t with cfgCheck := u })

/-- R140: SETRESIDUE writes CFG_RESIDUE and nothing else, in any state; its words, 0x5000_0000 among them; its
error; and no word uses CFG_RESIDUE. -/
def Obligations.SetresidueWritesCfgResidue : Prop :=
  (∀ (v : Half) (s : State), exec (.setresidue v) s = .next { s with cfgResidue := v }) ∧
  (∀ v : Half, decode (0x50000000#32 ||| v.setWidth 32) = .command (.setresidue v)) ∧
  (∀ w : CmdWord, w >>> 28 = 0x5#32 → w &&& 0x0FFF0000#32 ≠ 0#32 → decode w = .error .reservedBits) ∧
  (∀ (w : CmdWord) (v : Half) (s t : State), acceptWord w s = .next t →
    ∃ u, acceptWord w { s with cfgResidue := v } = .next { t with cfgResidue := u })

/-- R131: in any state a configuration command completes and changes configuration registers only; two different
ones commute; each is idempotent. -/
def Obligations.ConfigurationCommandsCommute : Prop :=
  (∀ (i : Instr) (s : State), isConfiguration i = true →
    ∃ t, exec i s = .next t ∧
      { s with cfgInit := t.cfgInit, cfgXorout := t.cfgXorout, cfgRefin := t.cfgRefin,
               cfgRefout := t.cfgRefout, cfgCheck := t.cfgCheck, cfgResidue := t.cfgResidue } = t) ∧
  (∀ (i j : Instr) (s : State), isConfiguration i = true → isConfiguration j = true → i.opcode ≠ j.opcode →
    acceptWords [encode i, encode j] s = acceptWords [encode j, encode i] s) ∧
  (∀ (i : Instr) (s : State), isConfiguration i = true →
    acceptWords [encode i, encode i] s = acceptWords [encode i] s)

/-! ### Digest commands -/

/-- R151: START in any state, its next state whole; its only word and its error; the rule's example. -/
def Obligations.StartBeginsADigest : Prop :=
  (∀ s : State, exec .start s = .next { s with
    value := if s.pInitReflect = .always ∨ s.cfgRefin = true then reflect16 s.cfgInit else s.cfgInit,
    actRefin := s.cfgRefin, actRefout := s.cfgRefout, actXorout := s.cfgXorout,
    active := true, rvalid := false }) ∧
  (∀ w : CmdWord, decode w = .command .start ↔ w = 0x60000000#32) ∧
  (∀ w : CmdWord, w >>> 28 = 0x6#32 → w &&& 0x0FFFFFFF#32 ≠ 0#32 → decode w = .error .reservedBits) ∧
  (∀ s : State, s.cfgInit = 0xC6C6#16 → s.cfgRefin = true →
    ∃ t, exec .start s = .next t ∧ t.value = 0x6363#16 ∧ t.active = true)

/-- R152: START discards a running digest, with no error: two engines that differ only in the digest they were
running, or in having none, are equal after it. -/
def Obligations.StartForgetsTheRunningDigest : Prop :=
  ∀ s t : State,
    { s with value := t.value, actRefin := t.actRefin, actRefout := t.actRefout, actXorout := t.actXorout,
             active := t.active, rvalid := t.rvalid } = t →
    ∃ u, exec .start s = .next u ∧ exec .start t = .next u ∧ u.err = s.err ∧ u.errCause = s.errCause

/-- R154: UPDATE with a digest active, its next state whole, for every byte; its words and its error; the corner
cases of self-cancel and of zero; the rule's example. -/
def Obligations.UpdateFoldsOneByte : Prop :=
  (∀ (b : Byte) (s : State), s.active = true →
    exec (.update b) s = .next { s with value := prim s.value (if s.actRefin then b else reflect8 b) }) ∧
  (∀ (b : Byte) (s : State), s.active = false → exec (.update b) s = .next { s with
    err := true, errCause := if s.err then s.errCause else 0x3#4 }) ∧
  (∀ b : Byte, decode (0x70000000#32 ||| b.setWidth 32) = .command (.update b)) ∧
  (∀ w : CmdWord, w >>> 28 = 0x7#32 → w &&& 0x0FFFFF00#32 ≠ 0#32 → decode w = .error .reservedBits) ∧
  (∀ s : State, s.active = true → s.actRefin = true →
    exec (.update (s.value.extractLsb' 0 8)) s = .next { s with value := s.value >>> 8 }) ∧
  (∀ s : State, s.active = true → s.value = 0x0000#16 → exec (.update 0x00#8) s = .next s) ∧
  (∀ s : State, s.active = true → s.value = 0x0000#16 → s.actRefin = false →
    exec (.update 0x31#8) s = .next { s with value := 0x4E64#16 })

/-- R157: FINAL with a digest active, its next state whole, VALUE kept; without one, NO_DIGEST; its only word and
its error; FINAL directly after START; the rule's example. -/
def Obligations.FinalProducesTheChecksum : Prop :=
  (∀ s : State, s.active = true → exec .final s = .next { s with
    result := (if s.actRefout then s.value else reflect16 s.value) ^^^ s.actXorout,
    active := false, rvalid := true }) ∧
  (∀ s : State, s.active = false → exec .final s = .next { s with
    err := true, errCause := if s.err then s.errCause else 0x3#4 }) ∧
  (∀ w : CmdWord, decode w = .command .final ↔ w = 0x80000000#32) ∧
  (∀ w : CmdWord, w >>> 28 = 0x8#32 → w &&& 0x0FFFFFFF#32 ≠ 0#32 → decode w = .error .reservedBits) ∧
  (∀ s : State, s.active = true → s.value = 0x6F91#16 → s.actRefout = true → s.actXorout = 0xFFFF#16 →
    exec .final s = .next { s with result := 0x906E#16, active := false, rvalid := true }) ∧
  (∀ s : State, ∃ t, acceptWords [0x60000000#32, 0x80000000#32] s = .next t ∧
    t.result = finish s.cfgRefout s.cfgXorout (initValue s.pInitReflect s.cfgRefin s.cfgInit))

/-- R22's "written by" column, R56: over every accepted word, each register changes only by the commands the table
names as its writers, and the error record only by an error. -/
def Obligations.RegistersChangeOnlyByTheirWriters : Prop :=
  ∀ (w : CmdWord) (s t : State), acceptWord w s = .next t →
    ((∀ v, decode w ≠ .command (.setinit v)) → t.cfgInit = s.cfgInit) ∧
    ((∀ v, decode w ≠ .command (.setxorout v)) → t.cfgXorout = s.cfgXorout) ∧
    ((∀ i o, decode w ≠ .command (.setflags i o)) → t.cfgRefin = s.cfgRefin ∧ t.cfgRefout = s.cfgRefout) ∧
    ((∀ v, decode w ≠ .command (.setcheck v)) → t.cfgCheck = s.cfgCheck) ∧
    ((∀ v, decode w ≠ .command (.setresidue v)) → t.cfgResidue = s.cfgResidue) ∧
    (decode w ≠ .command .start → (∀ b, decode w ≠ .command (.update b)) → t.value = s.value) ∧
    (decode w ≠ .command .final → t.result = s.result) ∧
    (decode w ≠ .command .start →
      t.actRefin = s.actRefin ∧ t.actRefout = s.actRefout ∧ t.actXorout = s.actXorout) ∧
    (decode w ≠ .command .start → decode w ≠ .command .final → t.active = s.active ∧ t.rvalid = s.rvalid) ∧
    ((∃ i, decode w = .command i) → s.active = true → t.err = s.err ∧ t.errCause = s.errCause) ∧
    t.pInitReflect = s.pInitReflect ∧ t.port = s.port

/-! ### Errors and status -/

/-- R200: which words raise which cause, and that nothing else raises one: the record after any word accepted by
an engine whose record is clear. -/
def Obligations.CausesAreRaisedExactlyWhere : Prop :=
  ∀ (w : CmdWord) (s : State), s.err = false → s.errCause = 0x0#4 →
    ∃ t, acceptWord w s = .next t ∧
      t.errCause = (if 9 ≤ (w >>> 28).toNat then 0x1#4
        else if reservedClear w = false then 0x2#4
        else if ((w >>> 28).toNat = 7 ∨ (w >>> 28).toNat = 8) ∧ s.active = false then 0x3#4
        else 0x0#4) ∧
      (t.err = true ↔ t.errCause ≠ 0x0#4)

/-- R201: a well-formed UPDATE or FINAL without a digest leaves VALUE, RESULT, RVALID and everything else but the
record unchanged, and ACTIVE stays 0. -/
def Obligations.MisuseIsRecordedAndIgnored : Prop :=
  ∀ (w : CmdWord) (s : State), wellFormedWord w = true → (w >>> 28 = 0x7#32 ∨ w >>> 28 = 0x8#32) → s.active = false →
    ∃ t, acceptWord w s = .next t ∧ t.active = false ∧ t.err = true ∧
      t.errCause = (if s.err then s.errCause else 0x3#4) ∧ State.AgreeButError s t

/-- R35: an error with ERR 0 sets the record, one with ERR 1 changes nothing; and once ERR is 1, no edge without
reset changes ERR or ERRCAUSE, while a reset edge clears both. -/
def Obligations.FirstErrorIsKeptUntilReset : Prop :=
  (∀ (c : Cause) (s : State), s.err = false →
    raiseCmdError c s = .next { s with err := true, errCause := causeCode c }) ∧
  (∀ (c : Cause) (s : State), s.err = true → raiseCmdError c s = .next s) ∧
  (∀ (s t : State) (e : Edge) (es : List Edge), s.port = e :: es → e.rst = false → s.err = true →
    step s = .next t → t.err = true ∧ t.errCause = s.errCause) ∧
  (∀ (s t : State) (e : Edge) (es : List Edge), s.port = e :: es → e.rst = true →
    step s = .next t → t.err = false ∧ t.errCause = 0x0#4)

/-- R35, R203, R206: a recorded error steers nothing: two engines that agree on everything but the record still do
after any step. -/
def Obligations.ErrorRecordSteersNothing : Prop :=
  ∀ s t s' t' : State, State.AgreeButError s t → step s = .next s' → step t = .next t' →
    State.AgreeButError s' t'

/-- R37's table: what each command leaves in ACTIVE and RVALID, with the row for a command that raises an error. -/
def Obligations.StatusBitsByCommand : Prop :=
  ∀ s : State,
    (∀ i : Instr, i = .nop ∨ isConfiguration i = true →
      ∃ t, exec i s = .next t ∧ t.active = s.active ∧ t.rvalid = s.rvalid ∧ t.err = s.err ∧ t.errCause = s.errCause) ∧
    (∃ t, exec .start s = .next t ∧ t.active = true ∧ t.rvalid = false ∧ t.err = s.err ∧ t.errCause = s.errCause) ∧
    (∀ b : Byte, s.active = true →
      ∃ t, exec (.update b) s = .next t ∧ t.active = true ∧ t.rvalid = s.rvalid ∧ t.err = s.err ∧
        t.errCause = s.errCause) ∧
    (s.active = true →
      ∃ t, exec .final s = .next t ∧ t.active = false ∧ t.rvalid = true ∧ t.err = s.err ∧ t.errCause = s.errCause) ∧
    (∀ i : Instr, i = .final ∨ (∃ b, i = .update b) → s.active = false →
      ∃ t, exec i s = .next t ∧ t.active = s.active ∧ t.rvalid = s.rvalid ∧ t.err = true ∧
        t.errCause = if s.err then s.errCause else 0x3#4) ∧
    (∀ (w : CmdWord) (c : Cause), decode w = .error c →
      ∃ t, acceptWord w s = .next t ∧ t.active = s.active ∧ t.rvalid = s.rvalid ∧ t.err = true ∧
        t.errCause = if s.err then s.errCause else causeCode c)

/-! ### The read port -/

/-- R32: the bits of STATUS. -/
def Obligations.StatusWordBits : Prop :=
  ∀ s : State,
    (s.read 0x0#4).getLsbD 0 = s.active ∧ (s.read 0x0#4).getLsbD 1 = s.rvalid ∧
    (s.read 0x0#4).getLsbD 2 = s.err ∧ (s.read 0x0#4).getLsbD 3 = false ∧
    (s.read 0x0#4).extractLsb' 4 4 = s.errCause ∧ (s.read 0x0#4).extractLsb' 8 8 = 0#8

/-- R52, R53: what every selector reads. That the reserved ones read zero holds of this revision of the spec only
(R53; log entry 5). -/
def Obligations.ReadMap : Prop :=
  ∀ s : State,
    s.read 0x0#4 = (if s.active then 0x0001#16 else 0#16) ||| (if s.rvalid then 0x0002#16 else 0#16) |||
      (if s.err then 0x0004#16 else 0#16) ||| (s.errCause.setWidth 16 <<< 4) ∧
    s.read 0x1#4 = s.cfgInit ∧ s.read 0x2#4 = s.cfgXorout ∧
    s.read 0x3#4 = (if s.cfgRefin then 0x0001#16 else 0#16) ||| (if s.cfgRefout then 0x0002#16 else 0#16) ∧
    s.read 0x4#4 = s.cfgCheck ∧ s.read 0x5#4 = s.cfgResidue ∧ s.read 0x6#4 = s.value ∧ s.read 0x7#4 = s.result ∧
    s.read 0x8#4 = (if s.pInitReflect = .always then 0x0001#16 else 0x0000#16) ∧
    ∀ k : Nibble, 9 ≤ k.toNat → s.read k = 0x0000#16

/-- R36: PARAMS is one bit of the build, and no step changes it, a reset edge included. -/
def Obligations.ParamsIsFixed : Prop :=
  (∀ s : State, s.pInitReflect = .onRefin → s.read 0x8#4 = 0x0000#16) ∧
  (∀ s : State, s.pInitReflect = .always → s.read 0x8#4 = 0x0001#16) ∧
  (∀ s t : State, step s = .next t → t.pInitReflect = s.pInitReflect ∧ t.read 0x8#4 = s.read 0x8#4)

/-- R54: the read selector on the pins changes no state: two edges that differ in it alone do the same. -/
def Obligations.ReadsHaveNoEffect : Prop :=
  ∀ (s : State) (e : Edge) (es : List Edge) (k : Nibble),
    step { s with port := e :: es } = step { s with port := { e with rdSel := k } :: es }

/-! ### The datapath -/

/-- R100, R101: bit i of a reflection is bit 7 - i, or 15 - i, of the value; and the rules' corner cases. -/
def Obligations.ReflectorReversesBits : Prop :=
  (∀ (b : Byte) (i : Nat), i < 8 → (reflect8 b).getLsbD i = b.getLsbD (7 - i)) ∧
  (∀ (w : Half) (i : Nat), i < 16 → (reflect16 w).getLsbD i = w.getLsbD (15 - i)) ∧
  reflect8 0x00#8 = 0x00#8 ∧ reflect8 0xFF#8 = 0xFF#8 ∧ reflect8 0x01#8 = 0x80#8 ∧ reflect8 0x31#8 = 0x8C#8 ∧
  reflect16 0x0000#16 = 0x0000#16 ∧ reflect16 0xFFFF#16 = 0xFFFF#16 ∧ reflect16 0x0001#16 = 0x8000#16 ∧
  reflect16 0xC6C6#16 = 0x6363#16 ∧ reflect16 0x1021#16 = 0x8408#16

/-- R102: the four laws of the reflector. -/
def Obligations.ReflectorLaws : Prop :=
  (∀ b : Byte, reflect8 (reflect8 b) = b) ∧ (∀ w : Half, reflect16 (reflect16 w) = w) ∧
  (∀ w : Half, reflect16 w =
    ((reflect8 (w.extractLsb' 0 8)).setWidth 16 <<< 8) ||| (reflect8 (w.extractLsb' 8 8)).setWidth 16) ∧
  (∀ a b : Half, reflect16 (a ^^^ b) = reflect16 a ^^^ reflect16 b) ∧
  Nat.card { w : Half // reflect16 w = w } = 256 ∧
  reflect16 0x0000#16 = 0x0000#16 ∧ reflect16 0xFFFF#16 = 0xFFFF#16 ∧ reflect16 0x8001#16 = 0x8001#16 ∧
  reflect16 0xC6C6#16 ≠ 0xC6C6#16 ∧ reflect16 0x1D0F#16 ≠ 0x1D0F#16

/-- R104, R105: the closed form is eight steps of the bit-serial register for every register and byte, and so is
the reference's other form; its constant is the reflected polynomial. -/
def Obligations.PrimitiveIsBitSerial : Prop :=
  (∀ (r : Half) (d : Byte), prim r d = bitserial8 r d) ∧
  (∀ (r : Half) (d : Byte), xorThenShift8 r d = bitserial8 r d) ∧
  Config.polynomialLsb = reflect16 Config.polynomial ∧ Config.polynomial = 0x1021#16

/-- R106: the laws of the primitive. -/
def Obligations.PrimitiveLaws : Prop :=
  (∀ (a b : Half) (x y : Byte), prim (a ^^^ b) (x ^^^ y) = prim a x ^^^ prim b y) ∧
  prim 0x0000#16 0x00#8 = 0x0000#16 ∧
  (∀ (r : Half) (d : Byte), prim r d = prim (r ^^^ d.setWidth 16) 0x00#8) ∧
  (∀ r : Half, prim r 0x00#8 = prim (r &&& 0x00FF#16) 0x00#8 ^^^ (r >>> 8)) ∧
  (∀ r : Half, prim r (r.extractLsb' 0 8) = r >>> 8) ∧
  (∀ d : Byte, Function.Bijective (fun r : Half => prim r d)) ∧
  (List.range 8).map (fun i => prim (0x0001#16 <<< i) 0x00#8) =
    [0x1189#16, 0x2312#16, 0x4624#16, 0x8C48#16, 0x1081#16, 0x2102#16, 0x4204#16, 0x8408#16] ∧
  prim 0x0000#16 0x80#8 = 0x8408#16

/-- R112: where the two values of P_INIT_REFLECT differ, and that they then differ in the checksum of every
message, the empty one included. -/
def Obligations.InitPoliciesDifferExactlyWhere : Prop :=
  (∀ (refin : Bool) (init : Half), initValue .always refin init ≠ initValue .onRefin refin init ↔
    refin = false ∧ reflect16 init ≠ init) ∧
  (∀ (a : Algorithm) (m : List Byte), Function.Bijective
    (fun v : Half => finish a.refout a.xorout (foldBytes a.refin v m))) ∧
  (∀ (a : Algorithm) (m : List Byte), a.refin = false → reflect16 a.init ≠ a.init →
    crc .always a m ≠ crc .onRefin a m) ∧
  initValue .always false 0xFFFF#16 = initValue .onRefin false 0xFFFF#16

/-- R113: the feed stage, and R62's bit order: with refin 0, bit 7 of the byte is the first to enter. -/
def Obligations.FeedStage : Prop :=
  (∀ b : Byte, feed true b = b) ∧ (∀ b : Byte, feed false b = reflect8 b) ∧
  (∀ (b : Byte) (i : Nat), i < 8 → (feed false b).getLsbD i = b.getLsbD (7 - i))

/-- R114: the finalize stage reflects unless refout, XORs after that, and is a bijection of the register. -/
def Obligations.FinalizeStage : Prop :=
  (∀ x v : Half, finish false x v = reflect16 v ^^^ x) ∧ (∀ x v : Half, finish true x v = v ^^^ x) ∧
  ∀ (o : Bool) (x : Half), Function.Bijective (fun v : Half => finish o x v)

/-- R117: the worked examples. -/
def Obligations.WorkedExamples : Prop :=
  prim 0x0000#16 0x01#8 = 0x1189#16 ∧ prim 0xFFFF#16 0x31#8 = 0x2F8D#16 ∧ feed false 0x31#8 = 0x8C#8 ∧
  finish false 0x0000#16 0xC38C#16 = 0x31C3#16 ∧ finish true 0xFFFF#16 0x6F91#16 = 0x906E#16

/-- R166, C9: VALUE of a digest with refin 0 is the bit reflection of the MSB-first register loaded with CFG_INIT,
whatever the message, exactly when P_INIT_REFLECT is ALWAYS or CFG_INIT is a bit-palindrome: under ON_REFIN with
another CFG_INIT it fails from the START on. The first two clauses are one fold, and any number of folds, from a
register and its reflection; the next three are the start; the last is the engine from START. The MSB-first register
is general knowledge (PRESUMED, log entry 9). -/
def Obligations.UnreflectedDigestMirrorsMsbFirstUnderAlwaysOrPalindrome : Prop :=
  (∀ (v : Half) (b : Byte), reflect16 (prim v (feed false b)) = msbserial8 (reflect16 v) b) ∧
  (∀ (v : Half) (m : List Byte), reflect16 (foldBytes false v m) = m.foldl msbserial8 (reflect16 v)) ∧
  (∀ init : Half, reflect16 (initValue .always false init) = init) ∧
  (∀ (p : InitReflect) (init : Half), reflect16 init = init → reflect16 (initValue p false init) = init) ∧
  (∀ init : Half, reflect16 init ≠ init → reflect16 (initValue .onRefin false init) ≠ init) ∧
  (∀ (s : State) (m : List Byte), s.cfgRefin = false →
    ∃ t, acceptWords (0x60000000#32 :: m.map (fun b => 0x70000000#32 ||| b.setWidth 32)) s = .next t ∧
      (reflect16 t.value = m.foldl msbserial8 s.cfgInit ↔
        s.pInitReflect = .always ∨ reflect16 s.cfgInit = s.cfgInit))

/-! ### Digests as sequences of commands -/

/-- R160: from any state and for any message, START, the UPDATEs and FINAL leave RESULT at the message function of
the configuration as START found it, and the rest of the state as the rule says, whatever ERR was. -/
def Obligations.ChecksumSequenceComputesCrc : Prop :=
  ∀ (s : State) (m : List Byte),
    acceptWords (checksumWords m) s = .next { s with
      value := foldBytes s.cfgRefin (initValue s.pInitReflect s.cfgRefin s.cfgInit) m,
      result := crc s.pInitReflect s.algorithm m,
      actRefin := s.cfgRefin, actRefout := s.cfgRefout, actXorout := s.cfgXorout,
      active := false, rvalid := true }

/-- R161: between START and FINAL only the UPDATEs count: NOPs, configuration commands and words that raise a
decode error may stand anywhere among them. -/
def Obligations.InterleavedWordsDoNotDisturbADigest : Prop :=
  ∀ (s : State) (ws : List CmdWord), s.active = true →
    (∀ w ∈ ws, decode w ≠ .command .start ∧ decode w ≠ .command .final) →
    ∃ t, acceptWords (ws ++ [0x80000000#32]) s = .next t ∧
      t.value = foldBytes s.actRefin s.value (ws.filterMap messageByte) ∧
      t.result = finish s.actRefout s.actXorout (foldBytes s.actRefin s.value (ws.filterMap messageByte)) ∧
      t.active = false ∧ t.rvalid = true

/-- R161: for any chunking of a message, the UPDATEs chunk by chunk leave VALUE at the fold of the whole message and
nothing else changed, and between START and FINAL they leave RESULT at the message function of the whole message. -/
def Obligations.ChunkingIsInvisible : Prop :=
  (∀ (s : State) (chunks : List (List Byte)), s.active = true →
    acceptWords (chunks.map (fun c => c.map (fun b => encode (.update b)))).flatten s =
      .next { s with value := foldBytes s.actRefin s.value chunks.flatten }) ∧
  (∀ (s : State) (chunks : List (List Byte)),
    ∃ t, acceptWords (0x60000000#32 ::
        ((chunks.map (fun c => c.map (fun b => encode (.update b)))).flatten ++ [0x80000000#32])) s = .next t ∧
      t.value = foldBytes s.cfgRefin (initValue s.pInitReflect s.cfgRefin s.cfgInit) chunks.flatten ∧
      t.result = crc s.pInitReflect s.algorithm chunks.flatten ∧ t.active = false ∧ t.rvalid = true)

/-- R162: the empty message, and the pinned GENIBUS value under both policies (its parameters but init are
PRESUMED, log entry 8). -/
def Obligations.EmptyMessage : Prop :=
  (∀ s : State, ∃ t, acceptWords [0x60000000#32, 0x80000000#32] s = .next t ∧
    t.result = finish s.cfgRefout s.cfgXorout (initValue s.pInitReflect s.cfgRefin s.cfgInit)) ∧
  ∀ p : InitReflect, finish false 0xFFFF#16 (initValue p false 0xFFFF#16) = 0x0000#16

/-- R165: RESULT depends on the four computing registers and the message only: two engines that agree on them, and
on the build, give one RESULT, whatever else they hold. -/
def Obligations.EqualConfigurationsGiveEqualResults : Prop :=
  ∀ (s s' : State) (m : List Byte),
    s.cfgInit = s'.cfgInit → s.cfgRefin = s'.cfgRefin → s.cfgRefout = s'.cfgRefout → s.cfgXorout = s'.cfgXorout →
    s.pInitReflect = s'.pInitReflect →
    ∃ t t', acceptWords (checksumWords m) s = .next t ∧ acceptWords (checksumWords m) s' = .next t' ∧
      t.result = t'.result

/-- The source's check values: under both policies, every row of the catalog computes its own check over
"123456789" (spec/95_test_vectors.md section 1.1). The rows' parameters are PRESUMED (log entry 8). -/
def Obligations.CatalogMeetsItsCheckValues : Prop :=
  ∀ p : InitReflect, ∀ r ∈ catalog, crc p r.2 checkString = r.2.check

/-! ### Invariants -/

/-- Every step, from every state that meets the invariant, keeps it: ERRCAUSE agrees with ERR and is a code that is
produced (R35, R200), a digest is not both active and finished (R33, R34), a RESULT marked valid is the finalize
stage of VALUE and the snapshot (R30, R31, R157), and an engine never started holds its reset values (R39). -/
def Obligations.StepKeepsTheInvariant : Prop :=
  ∀ s t : State, s.Inv → step s = .next t → t.Inv

/-- The invariant holds at reset, for both builds. -/
def Obligations.ResetMeetsTheInvariant : Prop :=
  State.reset.Inv ∧ ∀ p : InitReflect, (State.resetWith p).Inv
end

