-- ==== Sys2Proof/Laws/Datapath.lean ====
section
/-! SUPPORT. The small lemmas of the datapath's stages (R111, R113, R114, R116). -/

namespace Sys2Proof.Machine

@[simp] theorem initValue_always (refin : Bool) (init : Half) :
    initValue .always refin init = reflect16 init := by simp [initValue]

@[simp] theorem initValue_refin (p : InitReflect) (init : Half) :
    initValue p true init = reflect16 init := by simp [initValue]

@[simp] theorem initValue_onRefin (init : Half) : initValue .onRefin false init = init := by simp [initValue]

@[simp] theorem feed_true (b : Byte) : feed true b = b := rfl

@[simp] theorem feed_false (b : Byte) : feed false b = reflect8 b := rfl

@[simp] theorem finish_true (x v : Half) : finish true x v = v ^^^ x := rfl

@[simp] theorem finish_false (x v : Half) : finish false x v = reflect16 v ^^^ x := rfl

@[simp] theorem foldBytes_nil (r : Bool) (v : Half) : foldBytes r v [] = v := rfl

@[simp] theorem foldBytes_cons (r : Bool) (v : Half) (b : Byte) (m : List Byte) :
    foldBytes r v (b :: m) = foldBytes r (prim v (feed r b)) m := rfl

theorem foldBytes_append (r : Bool) (v : Half) (m n : List Byte) :
    foldBytes r v (m ++ n) = foldBytes r (foldBytes r v m) n := List.foldl_append

/-- The closed form with its OR read as XOR: the two halves it joins are disjoint (R103). -/
theorem prim_eq_xor (crc : Half) (data : Byte) : prim crc data =
    (let c1 : Byte := data ^^^ crc.extractLsb' 0 8
     let c2 : Byte := c1 ^^^ (c1 <<< 4)
     (c2.setWidth 16 <<< 8) ^^^ (crc >>> 8) ^^^ (c2 >>> 4).setWidth 16 ^^^ (c2.setWidth 16 <<< 3)) := by
  have h (c : Byte) : (c.setWidth 16 <<< 8) ||| (crc >>> 8) = (c.setWidth 16 <<< 8) ^^^ (crc >>> 8) := by
    apply BitVec.eq_of_getLsbD_eq
    intro j hj
    interval_cases j <;> simp
  simp only [prim, h]

/-- A digest's fold stage reads VALUE and ACT_REFIN only (R154). -/
theorem State.foldStage_eq (s : State) (b : Byte) : s.foldStage b = foldBytes s.actRefin s.value [b] := rfl

end Sys2Proof.Machine
end

