-- ==== Sys2Proof/Laws/Decode.lean ====
section
/-! SUPPORT. What the fields of an encoded word are, and what a decode that succeeds says of its word. -/

namespace Sys2Proof

@[simp] theorem opField_encode (i : Instr) : opField (encode i) = i.opcode := by
  simp only [opField, encode]
  ext j hj
  interval_cases j <;> simp

@[simp] theorem rsvField_encode (i : Instr) : rsvField (encode i) = 0#12 := by
  simp only [rsvField, encode]
  ext j hj
  interval_cases j <;> simp

@[simp] theorem immField_encode (i : Instr) : immField (encode i) = i.imm := by
  simp only [immField, encode]
  ext j hj
  interval_cases j <;> simp

/-- A word is its three fields (R71). -/
theorem word_eq_fields (w : CmdWord) :
    w = (opField w).setWidth 32 <<< 28 ||| (rsvField w).setWidth 32 <<< 16 ||| (immField w).setWidth 32 := by
  simp only [opField, rsvField, immField]
  ext j hj
  interval_cases j <;> simp

/-- The opcode as well-formedness reads it is the OP field. -/
theorem shift_eq_opField (w : CmdWord) : (w >>> 28).toNat = (opField w).toNat := by
  have h : w >>> 28 = (opField w).setWidth 32 := by
    unfold opField
    ext j hj
    interval_cases j <;> simp
  have := (opField w).isLt
  rw [h, BitVec.toNat_setWidth]
  omega

/-- A reserved opcode is tested first (R77, R205). -/
theorem decode_of_reservedOpcode (w : CmdWord) (h : 9 ≤ (opField w).toNat) : decode w = .error .illegalOp := by
  rw [decode, if_pos h]

/-- With a defined opcode a bit in RSV is tested next (R78, R205). -/
theorem decode_of_rsv (w : CmdWord) (h : (opField w).toNat < 9) (hr : rsvField w ≠ 0#12) :
    decode w = .error .reservedBits := by
  rw [decode, if_neg (by omega), if_pos hr]

/-- A word with no bit in RSV whose opcode and IMM are a command's is that command's word. -/
theorem encode_of_fields (w : CmdWord) (i : Instr) (ho : opField w = i.opcode) (hr : rsvField w = 0#12)
    (hi : immField w = i.imm) : encode i = w := by
  rw [word_eq_fields w, ho, hr, hi]
  simp [encode]

end Sys2Proof
end

