-- ==== Sys2Proof/Laws/State.lean ====
section
/-! SUPPORT. One lemma per field of State per named update, so that no later proof unfolds a record update. -/

namespace Sys2Proof.Machine

variable (s : State)

/-! Fields after `writeInit`. -/
@[simp] theorem State.writeInit_cfgInit (v : Half) : (s.writeInit v).cfgInit = v := rfl
@[simp] theorem State.writeInit_cfgXorout (v : Half) : (s.writeInit v).cfgXorout = s.cfgXorout := rfl
@[simp] theorem State.writeInit_cfgRefin (v : Half) : (s.writeInit v).cfgRefin = s.cfgRefin := rfl
@[simp] theorem State.writeInit_cfgRefout (v : Half) : (s.writeInit v).cfgRefout = s.cfgRefout := rfl
@[simp] theorem State.writeInit_cfgCheck (v : Half) : (s.writeInit v).cfgCheck = s.cfgCheck := rfl
@[simp] theorem State.writeInit_cfgResidue (v : Half) : (s.writeInit v).cfgResidue = s.cfgResidue := rfl
@[simp] theorem State.writeInit_value (v : Half) : (s.writeInit v).value = s.value := rfl
@[simp] theorem State.writeInit_result (v : Half) : (s.writeInit v).result = s.result := rfl
@[simp] theorem State.writeInit_actRefin (v : Half) : (s.writeInit v).actRefin = s.actRefin := rfl
@[simp] theorem State.writeInit_actRefout (v : Half) : (s.writeInit v).actRefout = s.actRefout := rfl
@[simp] theorem State.writeInit_actXorout (v : Half) : (s.writeInit v).actXorout = s.actXorout := rfl
@[simp] theorem State.writeInit_active (v : Half) : (s.writeInit v).active = s.active := rfl
@[simp] theorem State.writeInit_rvalid (v : Half) : (s.writeInit v).rvalid = s.rvalid := rfl
@[simp] theorem State.writeInit_err (v : Half) : (s.writeInit v).err = s.err := rfl
@[simp] theorem State.writeInit_errCause (v : Half) : (s.writeInit v).errCause = s.errCause := rfl
@[simp] theorem State.writeInit_pInitReflect (v : Half) : (s.writeInit v).pInitReflect = s.pInitReflect := rfl
@[simp] theorem State.writeInit_port (v : Half) : (s.writeInit v).port = s.port := rfl

/-! Fields after `writeXorout`. -/
@[simp] theorem State.writeXorout_cfgInit (v : Half) : (s.writeXorout v).cfgInit = s.cfgInit := rfl
@[simp] theorem State.writeXorout_cfgXorout (v : Half) : (s.writeXorout v).cfgXorout = v := rfl
@[simp] theorem State.writeXorout_cfgRefin (v : Half) : (s.writeXorout v).cfgRefin = s.cfgRefin := rfl
@[simp] theorem State.writeXorout_cfgRefout (v : Half) : (s.writeXorout v).cfgRefout = s.cfgRefout := rfl
@[simp] theorem State.writeXorout_cfgCheck (v : Half) : (s.writeXorout v).cfgCheck = s.cfgCheck := rfl
@[simp] theorem State.writeXorout_cfgResidue (v : Half) : (s.writeXorout v).cfgResidue = s.cfgResidue := rfl
@[simp] theorem State.writeXorout_value (v : Half) : (s.writeXorout v).value = s.value := rfl
@[simp] theorem State.writeXorout_result (v : Half) : (s.writeXorout v).result = s.result := rfl
@[simp] theorem State.writeXorout_actRefin (v : Half) : (s.writeXorout v).actRefin = s.actRefin := rfl
@[simp] theorem State.writeXorout_actRefout (v : Half) : (s.writeXorout v).actRefout = s.actRefout := rfl
@[simp] theorem State.writeXorout_actXorout (v : Half) : (s.writeXorout v).actXorout = s.actXorout := rfl
@[simp] theorem State.writeXorout_active (v : Half) : (s.writeXorout v).active = s.active := rfl
@[simp] theorem State.writeXorout_rvalid (v : Half) : (s.writeXorout v).rvalid = s.rvalid := rfl
@[simp] theorem State.writeXorout_err (v : Half) : (s.writeXorout v).err = s.err := rfl
@[simp] theorem State.writeXorout_errCause (v : Half) : (s.writeXorout v).errCause = s.errCause := rfl
@[simp] theorem State.writeXorout_pInitReflect (v : Half) : (s.writeXorout v).pInitReflect = s.pInitReflect := rfl
@[simp] theorem State.writeXorout_port (v : Half) : (s.writeXorout v).port = s.port := rfl

/-! Fields after `writeFlags`. -/
@[simp] theorem State.writeFlags_cfgInit (i o : Bool) : (s.writeFlags i o).cfgInit = s.cfgInit := rfl
@[simp] theorem State.writeFlags_cfgXorout (i o : Bool) : (s.writeFlags i o).cfgXorout = s.cfgXorout := rfl
@[simp] theorem State.writeFlags_cfgRefin (i o : Bool) : (s.writeFlags i o).cfgRefin = i := rfl
@[simp] theorem State.writeFlags_cfgRefout (i o : Bool) : (s.writeFlags i o).cfgRefout = o := rfl
@[simp] theorem State.writeFlags_cfgCheck (i o : Bool) : (s.writeFlags i o).cfgCheck = s.cfgCheck := rfl
@[simp] theorem State.writeFlags_cfgResidue (i o : Bool) : (s.writeFlags i o).cfgResidue = s.cfgResidue := rfl
@[simp] theorem State.writeFlags_value (i o : Bool) : (s.writeFlags i o).value = s.value := rfl
@[simp] theorem State.writeFlags_result (i o : Bool) : (s.writeFlags i o).result = s.result := rfl
@[simp] theorem State.writeFlags_actRefin (i o : Bool) : (s.writeFlags i o).actRefin = s.actRefin := rfl
@[simp] theorem State.writeFlags_actRefout (i o : Bool) : (s.writeFlags i o).actRefout = s.actRefout := rfl
@[simp] theorem State.writeFlags_actXorout (i o : Bool) : (s.writeFlags i o).actXorout = s.actXorout := rfl
@[simp] theorem State.writeFlags_active (i o : Bool) : (s.writeFlags i o).active = s.active := rfl
@[simp] theorem State.writeFlags_rvalid (i o : Bool) : (s.writeFlags i o).rvalid = s.rvalid := rfl
@[simp] theorem State.writeFlags_err (i o : Bool) : (s.writeFlags i o).err = s.err := rfl
@[simp] theorem State.writeFlags_errCause (i o : Bool) : (s.writeFlags i o).errCause = s.errCause := rfl
@[simp] theorem State.writeFlags_pInitReflect (i o : Bool) : (s.writeFlags i o).pInitReflect = s.pInitReflect := rfl
@[simp] theorem State.writeFlags_port (i o : Bool) : (s.writeFlags i o).port = s.port := rfl

/-! Fields after `writeCheck`. -/
@[simp] theorem State.writeCheck_cfgInit (v : Half) : (s.writeCheck v).cfgInit = s.cfgInit := rfl
@[simp] theorem State.writeCheck_cfgXorout (v : Half) : (s.writeCheck v).cfgXorout = s.cfgXorout := rfl
@[simp] theorem State.writeCheck_cfgRefin (v : Half) : (s.writeCheck v).cfgRefin = s.cfgRefin := rfl
@[simp] theorem State.writeCheck_cfgRefout (v : Half) : (s.writeCheck v).cfgRefout = s.cfgRefout := rfl
@[simp] theorem State.writeCheck_cfgCheck (v : Half) : (s.writeCheck v).cfgCheck = v := rfl
@[simp] theorem State.writeCheck_cfgResidue (v : Half) : (s.writeCheck v).cfgResidue = s.cfgResidue := rfl
@[simp] theorem State.writeCheck_value (v : Half) : (s.writeCheck v).value = s.value := rfl
@[simp] theorem State.writeCheck_result (v : Half) : (s.writeCheck v).result = s.result := rfl
@[simp] theorem State.writeCheck_actRefin (v : Half) : (s.writeCheck v).actRefin = s.actRefin := rfl
@[simp] theorem State.writeCheck_actRefout (v : Half) : (s.writeCheck v).actRefout = s.actRefout := rfl
@[simp] theorem State.writeCheck_actXorout (v : Half) : (s.writeCheck v).actXorout = s.actXorout := rfl
@[simp] theorem State.writeCheck_active (v : Half) : (s.writeCheck v).active = s.active := rfl
@[simp] theorem State.writeCheck_rvalid (v : Half) : (s.writeCheck v).rvalid = s.rvalid := rfl
@[simp] theorem State.writeCheck_err (v : Half) : (s.writeCheck v).err = s.err := rfl
@[simp] theorem State.writeCheck_errCause (v : Half) : (s.writeCheck v).errCause = s.errCause := rfl
@[simp] theorem State.writeCheck_pInitReflect (v : Half) : (s.writeCheck v).pInitReflect = s.pInitReflect := rfl
@[simp] theorem State.writeCheck_port (v : Half) : (s.writeCheck v).port = s.port := rfl

/-! Fields after `writeResidue`. -/
@[simp] theorem State.writeResidue_cfgInit (v : Half) : (s.writeResidue v).cfgInit = s.cfgInit := rfl
@[simp] theorem State.writeResidue_cfgXorout (v : Half) : (s.writeResidue v).cfgXorout = s.cfgXorout := rfl
@[simp] theorem State.writeResidue_cfgRefin (v : Half) : (s.writeResidue v).cfgRefin = s.cfgRefin := rfl
@[simp] theorem State.writeResidue_cfgRefout (v : Half) : (s.writeResidue v).cfgRefout = s.cfgRefout := rfl
@[simp] theorem State.writeResidue_cfgCheck (v : Half) : (s.writeResidue v).cfgCheck = s.cfgCheck := rfl
@[simp] theorem State.writeResidue_cfgResidue (v : Half) : (s.writeResidue v).cfgResidue = v := rfl
@[simp] theorem State.writeResidue_value (v : Half) : (s.writeResidue v).value = s.value := rfl
@[simp] theorem State.writeResidue_result (v : Half) : (s.writeResidue v).result = s.result := rfl
@[simp] theorem State.writeResidue_actRefin (v : Half) : (s.writeResidue v).actRefin = s.actRefin := rfl
@[simp] theorem State.writeResidue_actRefout (v : Half) : (s.writeResidue v).actRefout = s.actRefout := rfl
@[simp] theorem State.writeResidue_actXorout (v : Half) : (s.writeResidue v).actXorout = s.actXorout := rfl
@[simp] theorem State.writeResidue_active (v : Half) : (s.writeResidue v).active = s.active := rfl
@[simp] theorem State.writeResidue_rvalid (v : Half) : (s.writeResidue v).rvalid = s.rvalid := rfl
@[simp] theorem State.writeResidue_err (v : Half) : (s.writeResidue v).err = s.err := rfl
@[simp] theorem State.writeResidue_errCause (v : Half) : (s.writeResidue v).errCause = s.errCause := rfl
@[simp] theorem State.writeResidue_pInitReflect (v : Half) : (s.writeResidue v).pInitReflect = s.pInitReflect := rfl
@[simp] theorem State.writeResidue_port (v : Half) : (s.writeResidue v).port = s.port := rfl

/-! Fields after `writeValue`. -/
@[simp] theorem State.writeValue_cfgInit (v : Half) : (s.writeValue v).cfgInit = s.cfgInit := rfl
@[simp] theorem State.writeValue_cfgXorout (v : Half) : (s.writeValue v).cfgXorout = s.cfgXorout := rfl
@[simp] theorem State.writeValue_cfgRefin (v : Half) : (s.writeValue v).cfgRefin = s.cfgRefin := rfl
@[simp] theorem State.writeValue_cfgRefout (v : Half) : (s.writeValue v).cfgRefout = s.cfgRefout := rfl
@[simp] theorem State.writeValue_cfgCheck (v : Half) : (s.writeValue v).cfgCheck = s.cfgCheck := rfl
@[simp] theorem State.writeValue_cfgResidue (v : Half) : (s.writeValue v).cfgResidue = s.cfgResidue := rfl
@[simp] theorem State.writeValue_value (v : Half) : (s.writeValue v).value = v := rfl
@[simp] theorem State.writeValue_result (v : Half) : (s.writeValue v).result = s.result := rfl
@[simp] theorem State.writeValue_actRefin (v : Half) : (s.writeValue v).actRefin = s.actRefin := rfl
@[simp] theorem State.writeValue_actRefout (v : Half) : (s.writeValue v).actRefout = s.actRefout := rfl
@[simp] theorem State.writeValue_actXorout (v : Half) : (s.writeValue v).actXorout = s.actXorout := rfl
@[simp] theorem State.writeValue_active (v : Half) : (s.writeValue v).active = s.active := rfl
@[simp] theorem State.writeValue_rvalid (v : Half) : (s.writeValue v).rvalid = s.rvalid := rfl
@[simp] theorem State.writeValue_err (v : Half) : (s.writeValue v).err = s.err := rfl
@[simp] theorem State.writeValue_errCause (v : Half) : (s.writeValue v).errCause = s.errCause := rfl
@[simp] theorem State.writeValue_pInitReflect (v : Half) : (s.writeValue v).pInitReflect = s.pInitReflect := rfl
@[simp] theorem State.writeValue_port (v : Half) : (s.writeValue v).port = s.port := rfl

/-! Fields after `writeResult`. -/
@[simp] theorem State.writeResult_cfgInit (v : Half) : (s.writeResult v).cfgInit = s.cfgInit := rfl
@[simp] theorem State.writeResult_cfgXorout (v : Half) : (s.writeResult v).cfgXorout = s.cfgXorout := rfl
@[simp] theorem State.writeResult_cfgRefin (v : Half) : (s.writeResult v).cfgRefin = s.cfgRefin := rfl
@[simp] theorem State.writeResult_cfgRefout (v : Half) : (s.writeResult v).cfgRefout = s.cfgRefout := rfl
@[simp] theorem State.writeResult_cfgCheck (v : Half) : (s.writeResult v).cfgCheck = s.cfgCheck := rfl
@[simp] theorem State.writeResult_cfgResidue (v : Half) : (s.writeResult v).cfgResidue = s.cfgResidue := rfl
@[simp] theorem State.writeResult_value (v : Half) : (s.writeResult v).value = s.value := rfl
@[simp] theorem State.writeResult_result (v : Half) : (s.writeResult v).result = v := rfl
@[simp] theorem State.writeResult_actRefin (v : Half) : (s.writeResult v).actRefin = s.actRefin := rfl
@[simp] theorem State.writeResult_actRefout (v : Half) : (s.writeResult v).actRefout = s.actRefout := rfl
@[simp] theorem State.writeResult_actXorout (v : Half) : (s.writeResult v).actXorout = s.actXorout := rfl
@[simp] theorem State.writeResult_active (v : Half) : (s.writeResult v).active = s.active := rfl
@[simp] theorem State.writeResult_rvalid (v : Half) : (s.writeResult v).rvalid = s.rvalid := rfl
@[simp] theorem State.writeResult_err (v : Half) : (s.writeResult v).err = s.err := rfl
@[simp] theorem State.writeResult_errCause (v : Half) : (s.writeResult v).errCause = s.errCause := rfl
@[simp] theorem State.writeResult_pInitReflect (v : Half) : (s.writeResult v).pInitReflect = s.pInitReflect := rfl
@[simp] theorem State.writeResult_port (v : Half) : (s.writeResult v).port = s.port := rfl

/-! Fields after `takeSnapshot`. -/
@[simp] theorem State.takeSnapshot_cfgInit : s.takeSnapshot.cfgInit = s.cfgInit := rfl
@[simp] theorem State.takeSnapshot_cfgXorout : s.takeSnapshot.cfgXorout = s.cfgXorout := rfl
@[simp] theorem State.takeSnapshot_cfgRefin : s.takeSnapshot.cfgRefin = s.cfgRefin := rfl
@[simp] theorem State.takeSnapshot_cfgRefout : s.takeSnapshot.cfgRefout = s.cfgRefout := rfl
@[simp] theorem State.takeSnapshot_cfgCheck : s.takeSnapshot.cfgCheck = s.cfgCheck := rfl
@[simp] theorem State.takeSnapshot_cfgResidue : s.takeSnapshot.cfgResidue = s.cfgResidue := rfl
@[simp] theorem State.takeSnapshot_value : s.takeSnapshot.value = s.value := rfl
@[simp] theorem State.takeSnapshot_result : s.takeSnapshot.result = s.result := rfl
@[simp] theorem State.takeSnapshot_actRefin : s.takeSnapshot.actRefin = s.cfgRefin := rfl
@[simp] theorem State.takeSnapshot_actRefout : s.takeSnapshot.actRefout = s.cfgRefout := rfl
@[simp] theorem State.takeSnapshot_actXorout : s.takeSnapshot.actXorout = s.cfgXorout := rfl
@[simp] theorem State.takeSnapshot_active : s.takeSnapshot.active = s.active := rfl
@[simp] theorem State.takeSnapshot_rvalid : s.takeSnapshot.rvalid = s.rvalid := rfl
@[simp] theorem State.takeSnapshot_err : s.takeSnapshot.err = s.err := rfl
@[simp] theorem State.takeSnapshot_errCause : s.takeSnapshot.errCause = s.errCause := rfl
@[simp] theorem State.takeSnapshot_pInitReflect : s.takeSnapshot.pInitReflect = s.pInitReflect := rfl
@[simp] theorem State.takeSnapshot_port : s.takeSnapshot.port = s.port := rfl

/-! Fields after `markStarted`. -/
@[simp] theorem State.markStarted_cfgInit : s.markStarted.cfgInit = s.cfgInit := rfl
@[simp] theorem State.markStarted_cfgXorout : s.markStarted.cfgXorout = s.cfgXorout := rfl
@[simp] theorem State.markStarted_cfgRefin : s.markStarted.cfgRefin = s.cfgRefin := rfl
@[simp] theorem State.markStarted_cfgRefout : s.markStarted.cfgRefout = s.cfgRefout := rfl
@[simp] theorem State.markStarted_cfgCheck : s.markStarted.cfgCheck = s.cfgCheck := rfl
@[simp] theorem State.markStarted_cfgResidue : s.markStarted.cfgResidue = s.cfgResidue := rfl
@[simp] theorem State.markStarted_value : s.markStarted.value = s.value := rfl
@[simp] theorem State.markStarted_result : s.markStarted.result = s.result := rfl
@[simp] theorem State.markStarted_actRefin : s.markStarted.actRefin = s.actRefin := rfl
@[simp] theorem State.markStarted_actRefout : s.markStarted.actRefout = s.actRefout := rfl
@[simp] theorem State.markStarted_actXorout : s.markStarted.actXorout = s.actXorout := rfl
@[simp] theorem State.markStarted_active : s.markStarted.active = true := rfl
@[simp] theorem State.markStarted_rvalid : s.markStarted.rvalid = false := rfl
@[simp] theorem State.markStarted_err : s.markStarted.err = s.err := rfl
@[simp] theorem State.markStarted_errCause : s.markStarted.errCause = s.errCause := rfl
@[simp] theorem State.markStarted_pInitReflect : s.markStarted.pInitReflect = s.pInitReflect := rfl
@[simp] theorem State.markStarted_port : s.markStarted.port = s.port := rfl

/-! Fields after `markFinished`. -/
@[simp] theorem State.markFinished_cfgInit : s.markFinished.cfgInit = s.cfgInit := rfl
@[simp] theorem State.markFinished_cfgXorout : s.markFinished.cfgXorout = s.cfgXorout := rfl
@[simp] theorem State.markFinished_cfgRefin : s.markFinished.cfgRefin = s.cfgRefin := rfl
@[simp] theorem State.markFinished_cfgRefout : s.markFinished.cfgRefout = s.cfgRefout := rfl
@[simp] theorem State.markFinished_cfgCheck : s.markFinished.cfgCheck = s.cfgCheck := rfl
@[simp] theorem State.markFinished_cfgResidue : s.markFinished.cfgResidue = s.cfgResidue := rfl
@[simp] theorem State.markFinished_value : s.markFinished.value = s.value := rfl
@[simp] theorem State.markFinished_result : s.markFinished.result = s.result := rfl
@[simp] theorem State.markFinished_actRefin : s.markFinished.actRefin = s.actRefin := rfl
@[simp] theorem State.markFinished_actRefout : s.markFinished.actRefout = s.actRefout := rfl
@[simp] theorem State.markFinished_actXorout : s.markFinished.actXorout = s.actXorout := rfl
@[simp] theorem State.markFinished_active : s.markFinished.active = false := rfl
@[simp] theorem State.markFinished_rvalid : s.markFinished.rvalid = true := rfl
@[simp] theorem State.markFinished_err : s.markFinished.err = s.err := rfl
@[simp] theorem State.markFinished_errCause : s.markFinished.errCause = s.errCause := rfl
@[simp] theorem State.markFinished_pInitReflect : s.markFinished.pInitReflect = s.pInitReflect := rfl
@[simp] theorem State.markFinished_port : s.markFinished.port = s.port := rfl

/-! Fields after `withPort`. -/
@[simp] theorem State.withPort_cfgInit (es : List Edge) : (s.withPort es).cfgInit = s.cfgInit := rfl
@[simp] theorem State.withPort_cfgXorout (es : List Edge) : (s.withPort es).cfgXorout = s.cfgXorout := rfl
@[simp] theorem State.withPort_cfgRefin (es : List Edge) : (s.withPort es).cfgRefin = s.cfgRefin := rfl
@[simp] theorem State.withPort_cfgRefout (es : List Edge) : (s.withPort es).cfgRefout = s.cfgRefout := rfl
@[simp] theorem State.withPort_cfgCheck (es : List Edge) : (s.withPort es).cfgCheck = s.cfgCheck := rfl
@[simp] theorem State.withPort_cfgResidue (es : List Edge) : (s.withPort es).cfgResidue = s.cfgResidue := rfl
@[simp] theorem State.withPort_value (es : List Edge) : (s.withPort es).value = s.value := rfl
@[simp] theorem State.withPort_result (es : List Edge) : (s.withPort es).result = s.result := rfl
@[simp] theorem State.withPort_actRefin (es : List Edge) : (s.withPort es).actRefin = s.actRefin := rfl
@[simp] theorem State.withPort_actRefout (es : List Edge) : (s.withPort es).actRefout = s.actRefout := rfl
@[simp] theorem State.withPort_actXorout (es : List Edge) : (s.withPort es).actXorout = s.actXorout := rfl
@[simp] theorem State.withPort_active (es : List Edge) : (s.withPort es).active = s.active := rfl
@[simp] theorem State.withPort_rvalid (es : List Edge) : (s.withPort es).rvalid = s.rvalid := rfl
@[simp] theorem State.withPort_err (es : List Edge) : (s.withPort es).err = s.err := rfl
@[simp] theorem State.withPort_errCause (es : List Edge) : (s.withPort es).errCause = s.errCause := rfl
@[simp] theorem State.withPort_pInitReflect (es : List Edge) : (s.withPort es).pInitReflect = s.pInitReflect := rfl
@[simp] theorem State.withPort_port (es : List Edge) : (s.withPort es).port = es := rfl

/-! Fields after `applyReset`. -/
@[simp] theorem State.applyReset_cfgInit : s.applyReset.cfgInit = 0x0000#16 := rfl
@[simp] theorem State.applyReset_cfgXorout : s.applyReset.cfgXorout = 0x0000#16 := rfl
@[simp] theorem State.applyReset_cfgRefin : s.applyReset.cfgRefin = false := rfl
@[simp] theorem State.applyReset_cfgRefout : s.applyReset.cfgRefout = false := rfl
@[simp] theorem State.applyReset_cfgCheck : s.applyReset.cfgCheck = 0x31C3#16 := rfl
@[simp] theorem State.applyReset_cfgResidue : s.applyReset.cfgResidue = 0x0000#16 := rfl
@[simp] theorem State.applyReset_value : s.applyReset.value = 0x0000#16 := rfl
@[simp] theorem State.applyReset_result : s.applyReset.result = 0x0000#16 := rfl
@[simp] theorem State.applyReset_actRefin : s.applyReset.actRefin = false := rfl
@[simp] theorem State.applyReset_actRefout : s.applyReset.actRefout = false := rfl
@[simp] theorem State.applyReset_actXorout : s.applyReset.actXorout = 0x0000#16 := rfl
@[simp] theorem State.applyReset_active : s.applyReset.active = false := rfl
@[simp] theorem State.applyReset_rvalid : s.applyReset.rvalid = false := rfl
@[simp] theorem State.applyReset_err : s.applyReset.err = false := rfl
@[simp] theorem State.applyReset_errCause : s.applyReset.errCause = 0x0#4 := rfl
@[simp] theorem State.applyReset_pInitReflect : s.applyReset.pInitReflect = s.pInitReflect := rfl
@[simp] theorem State.applyReset_port : s.applyReset.port = s.port := rfl

/-! Fields after `recordError`: every field but the record itself is kept (R203). -/

@[simp] theorem State.recordError_cfgInit (c : Cause) : (s.recordError c).cfgInit = s.cfgInit := by
  unfold State.recordError; split <;> rfl
@[simp] theorem State.recordError_cfgXorout (c : Cause) : (s.recordError c).cfgXorout = s.cfgXorout := by
  unfold State.recordError; split <;> rfl
@[simp] theorem State.recordError_cfgRefin (c : Cause) : (s.recordError c).cfgRefin = s.cfgRefin := by
  unfold State.recordError; split <;> rfl
@[simp] theorem State.recordError_cfgRefout (c : Cause) : (s.recordError c).cfgRefout = s.cfgRefout := by
  unfold State.recordError; split <;> rfl
@[simp] theorem State.recordError_cfgCheck (c : Cause) : (s.recordError c).cfgCheck = s.cfgCheck := by
  unfold State.recordError; split <;> rfl
@[simp] theorem State.recordError_cfgResidue (c : Cause) : (s.recordError c).cfgResidue = s.cfgResidue := by
  unfold State.recordError; split <;> rfl
@[simp] theorem State.recordError_value (c : Cause) : (s.recordError c).value = s.value := by
  unfold State.recordError; split <;> rfl
@[simp] theorem State.recordError_result (c : Cause) : (s.recordError c).result = s.result := by
  unfold State.recordError; split <;> rfl
@[simp] theorem State.recordError_actRefin (c : Cause) : (s.recordError c).actRefin = s.actRefin := by
  unfold State.recordError; split <;> rfl
@[simp] theorem State.recordError_actRefout (c : Cause) : (s.recordError c).actRefout = s.actRefout := by
  unfold State.recordError; split <;> rfl
@[simp] theorem State.recordError_actXorout (c : Cause) : (s.recordError c).actXorout = s.actXorout := by
  unfold State.recordError; split <;> rfl
@[simp] theorem State.recordError_active (c : Cause) : (s.recordError c).active = s.active := by
  unfold State.recordError; split <;> rfl
@[simp] theorem State.recordError_rvalid (c : Cause) : (s.recordError c).rvalid = s.rvalid := by
  unfold State.recordError; split <;> rfl
@[simp] theorem State.recordError_err (c : Cause) : (s.recordError c).err = true := by
  unfold State.recordError; split <;> simp_all
@[simp] theorem State.recordError_errCause (c : Cause) :
    (s.recordError c).errCause = if s.err then s.errCause else causeCode c := by
  unfold State.recordError; split <;> rfl
@[simp] theorem State.recordError_pInitReflect (c : Cause) : (s.recordError c).pInitReflect = s.pInitReflect := by
  unfold State.recordError; split <;> rfl
@[simp] theorem State.recordError_port (c : Cause) : (s.recordError c).port = s.port := by
  unfold State.recordError; split <;> rfl

end Sys2Proof.Machine
end

