-- ==== Sys2Proof/Laws/Ops.lean ====
section
/-! SUPPORT. What each shared operation can do, said once: the error operation, the guard, one command, one
accepted word, one clock edge, one step, and a sequence of words. -/

namespace Sys2Proof.Machine

theorem raiseCmdError_eq (c : Cause) (s : State) : raiseCmdError c s = .next (s.recordError c) := rfl

@[simp] theorem State.recordError_of_err (s : State) (c : Cause) (h : s.err = true) : s.recordError c = s := by
  simp [State.recordError, h]

@[simp] theorem State.recordError_of_noErr (s : State) (c : Cause) (h : s.err = false) :
    s.recordError c = { s with err := true, errCause := causeCode c } := by
  simp [State.recordError, h]

theorem requireDigest_active (k : State → State) (s : State) (h : s.active = true) :
    requireDigest k s = .next (k s) := by simp [requireDigest, h]

theorem requireDigest_inactive (k : State → State) (s : State) (h : s.active = false) :
    requireDigest k s = .next (s.recordError .noDigest) := by simp [requireDigest, h, raiseCmdError]

/-- The guard does one of two things: run its operation, or record NO_DIGEST. -/
theorem requireDigest_cases (k : State → State) (s : State) :
    (s.active = true ∧ requireDigest k s = .next (k s)) ∨
    (s.active = false ∧ requireDigest k s = .next (s.recordError .noDigest)) := by
  cases h : s.active
  · exact .inr ⟨rfl, requireDigest_inactive k s h⟩
  · exact .inl ⟨rfl, requireDigest_active k s h⟩

/-- Every command answers a next state. -/
theorem exec_next (i : Instr) (s : State) : ∃ t, exec i s = .next t := by
  cases i <;>
    first
    | exact ⟨_, rfl⟩
    | (simp only [exec, execUpdate, execFinal]
       obtain ⟨-, h⟩ | ⟨-, h⟩ := requireDigest_cases _ s <;> exact ⟨_, h⟩)

theorem acceptWord_command (w : CmdWord) (s : State) (i : Instr) (h : decode w = .command i) :
    acceptWord w s = exec i s := by simp [acceptWord, h]

theorem acceptWord_error (w : CmdWord) (s : State) (c : Cause) (h : decode w = .error c) :
    acceptWord w s = .next (s.recordError c) := by simp [acceptWord, h, raiseCmdError]

/-- An accepted word runs its command or records its decode error. -/
theorem acceptWord_cases (w : CmdWord) (s : State) :
    (∃ i, decode w = .command i ∧ acceptWord w s = exec i s) ∨
    (∃ c, decode w = .error c ∧ acceptWord w s = .next (s.recordError c)) := by
  cases h : decode w with
  | command i => exact .inl ⟨i, rfl, acceptWord_command w s i h⟩
  | error c => exact .inr ⟨c, rfl, acceptWord_error w s c h⟩

/-- Every accepted word answers a next state (R150). -/
theorem acceptWord_next (w : CmdWord) (s : State) : ∃ t, acceptWord w s = .next t := by
  obtain ⟨i, -, h⟩ | ⟨c, -, h⟩ := acceptWord_cases w s
  · obtain ⟨t, ht⟩ := exec_next i s
    exact ⟨t, h.trans ht⟩
  · exact ⟨_, h⟩

theorem clockEdge_reset (e : Edge) (s : State) (h : e.rst = true) : clockEdge e s = .next s.applyReset := by
  simp [clockEdge, h]

theorem clockEdge_command (e : Edge) (s : State) (hr : e.rst = false) (hv : e.cmdValid = true) :
    clockEdge e s = acceptWord e.cmdData s := by simp [clockEdge, hr, hv]

theorem clockEdge_idle (e : Edge) (s : State) (hr : e.rst = false) (hv : e.cmdValid = false) :
    clockEdge e s = .next s := by simp [clockEdge, hr, hv]

theorem clockEdge_ofWord (w : CmdWord) (s : State) : clockEdge (Edge.ofWord w) s = acceptWord w s := rfl

theorem step_idle (s : State) (h : s.port = []) : step s = .next s := by simp [step, nextEdge, h]

theorem step_edge (s : State) (e : Edge) (es : List Edge) (h : s.port = e :: es) :
    step s = clockEdge e (s.withPort es) := by simp [step, nextEdge, h]

/-- Everything a step can do: nothing, reset, an idle edge, or one accepted word. -/
theorem step_cases (s t : State) (h : step s = .next t) :
    (s.port = [] ∧ t = s) ∨
    ∃ e es, s.port = e :: es ∧
      ((e.rst = true ∧ t = (s.withPort es).applyReset) ∨
       (e.rst = false ∧ e.cmdValid = false ∧ t = s.withPort es) ∨
       (e.rst = false ∧ e.cmdValid = true ∧ acceptWord e.cmdData (s.withPort es) = .next t)) := by
  cases hp : s.port with
  | nil =>
    rw [step_idle s hp] at h
    cases h
    exact .inl ⟨rfl, rfl⟩
  | cons e es =>
    rw [step_edge s e es hp] at h
    refine .inr ⟨e, es, rfl, ?_⟩
    cases hr : e.rst
    · cases hv : e.cmdValid
      · rw [clockEdge_idle e _ hr hv] at h
        cases h
        exact .inr (.inl ⟨rfl, rfl, rfl⟩)
      · rw [clockEdge_command e _ hr hv] at h
        exact .inr (.inr ⟨rfl, rfl, h⟩)
    · rw [clockEdge_reset e _ hr] at h
      cases h
      exact .inl ⟨rfl, rfl⟩

@[simp] theorem acceptWords_nil (s : State) : acceptWords [] s = .next s := rfl

/-- A sequence runs its first word, then the rest from where that word left the engine. -/
theorem acceptWords_cons (w : CmdWord) (ws : List CmdWord) (s t : State) (h : acceptWord w s = .next t) :
    acceptWords (w :: ws) s = acceptWords ws t := by simp [acceptWords, h]

/-- A sequence of words runs in its parts (R55). -/
theorem acceptWords_append (ws vs : List CmdWord) (s t : State) (h : acceptWords ws s = .next t) :
    acceptWords (ws ++ vs) s = acceptWords vs t := by
  induction ws generalizing s with
  | nil => cases h; rfl
  | cons w ws ih =>
    obtain ⟨u, hu⟩ := acceptWord_next w s
    rw [acceptWords_cons w ws s u hu] at h
    rw [List.cons_append, acceptWords_cons w _ s u hu, ih u h]

/-- Every sequence of words answers a next state. -/
theorem acceptWords_next (ws : List CmdWord) (s : State) : ∃ t, acceptWords ws s = .next t := by
  induction ws generalizing s with
  | nil => exact ⟨s, rfl⟩
  | cons w ws ih =>
    obtain ⟨u, hu⟩ := acceptWord_next w s
    rw [acceptWords_cons w ws s u hu]
    exact ih u

end Sys2Proof.Machine
end

