-- ==== Sys2Proof/Laws/PerInstr.lean ====
section
/-! SUPPORT. One family of statements over every constructor of Instr: a command's word lies in the opcode-table
row of its own mnemonic, and sets no reserved bit (R72, R75, R78). -/

namespace Sys2Proof.Laws.EncodedRow

/-- The word of a command is well formed and lies in the row of that command's mnemonic. -/
def Statement (i : Instr) : Prop :=
  wellFormedWord (encode i) = true ∧
    ∃ r ∈ opcodeTable, r.mnemonic = i.mnemonic ∧ r.accepts (encode i) = true

/-- The shift by which well-formedness reads the opcode gives the opcode field. -/
theorem shift_encode (i : Instr) : encode i >>> 28 = i.opcode.setWidth 32 := by
  simp only [encode]
  ext j hj
  interval_cases j <;> simp

/-- A mask over RSV alone finds nothing in an encoded word. -/
theorem encode_and_layoutH (i : Instr) : encode i &&& 0x0FFF0000#32 = 0#32 := by
  simp only [encode]
  ext j hj
  interval_cases j <;> simp

/-- The top half of an encoded word is its opcode with RSV clear. -/
theorem encode_and_topHalf (i : Instr) : encode i &&& 0xFFFF0000#32 = i.opcode.setWidth 32 <<< 28 := by
  simp only [encode]
  ext j hj
  interval_cases j <;> simp

theorem nop : Statement .nop := by
  refine ⟨by decide, _, List.mem_of_getElem? (i := 0) rfl, rfl, by decide⟩

/-- Well-formedness of an encoded word, read off its opcode. -/
theorem wellFormedWord_encode (i : Instr) (ho : i.opcode.toNat < 9)
    (hm : encode i &&& reservedMask i.opcode.toNat = 0#32) : wellFormedWord (encode i) = true := by
  have h : (encode i >>> 28).toNat = i.opcode.toNat := by
    rw [shift_encode, BitVec.toNat_setWidth]
    omega
  rw [wellFormedWord, opcodeDefined, reservedClear, h]
  simp [ho, hm]

/-- The shape every layout-H command shares: its row is the one at its opcode's place in the table. -/
theorem of_layoutH (i : Instr) (ho : i.opcode.toNat < 9) (hm : reservedMask i.opcode.toNat = 0x0FFF0000#32)
    (r : OpcodeRow) (hr : r ∈ opcodeTable) (hn : r.mnemonic = i.mnemonic)
    (hk : r.mask = 0xFFFF0000#32) (hp : r.pattern = i.opcode.setWidth 32 <<< 28) : Statement i :=
  ⟨wellFormedWord_encode i ho (by rw [hm, encode_and_layoutH]), r, hr, hn,
    by simp [OpcodeRow.accepts, hk, hp, encode_and_topHalf]⟩

theorem setinit (v : Half) : Statement (.setinit v) :=
  of_layoutH (.setinit v) (by simp [Instr.opcode]) rfl ⟨"SETINIT", 0x10000000#32, 0xFFFF0000#32⟩
    (by decide) rfl rfl (by simp [Instr.opcode])

theorem setxorout (v : Half) : Statement (.setxorout v) :=
  of_layoutH (.setxorout v) (by simp [Instr.opcode]) rfl ⟨"SETXOROUT", 0x20000000#32, 0xFFFF0000#32⟩
    (by decide) rfl rfl (by simp [Instr.opcode])

theorem setflags (i o : Bool) : Statement (.setflags i o) := by
  refine ⟨by revert i o; decide, _, List.mem_of_getElem? (i := 3) rfl, rfl, by revert i o; decide⟩

theorem setcheck (v : Half) : Statement (.setcheck v) :=
  of_layoutH (.setcheck v) (by simp [Instr.opcode]) rfl ⟨"SETCHECK", 0x40000000#32, 0xFFFF0000#32⟩
    (by decide) rfl rfl (by simp [Instr.opcode])

theorem setresidue (v : Half) : Statement (.setresidue v) :=
  of_layoutH (.setresidue v) (by simp [Instr.opcode]) rfl ⟨"SETRESIDUE", 0x50000000#32, 0xFFFF0000#32⟩
    (by decide) rfl rfl (by simp [Instr.opcode])

theorem start : Statement .start := by
  refine ⟨by decide, _, List.mem_of_getElem? (i := 6) rfl, rfl, by decide⟩

/-- UPDATE's mask leaves the opcode of an encoded byte. -/
theorem encode_update_and (b : Byte) :
    encode (.update b) &&& 0xFFFFFF00#32 = 0x70000000#32 ∧ encode (.update b) &&& 0x0FFFFF00#32 = 0#32 := by
  simp only [encode, Instr.opcode, Instr.imm]
  constructor <;> (ext j hj; interval_cases j <;> simp)

theorem update (b : Byte) : Statement (.update b) :=
  ⟨wellFormedWord_encode (.update b) (by simp [Instr.opcode]) (encode_update_and b).2,
    ⟨"UPDATE", 0x70000000#32, 0xFFFFFF00#32⟩, by decide, rfl, by simp [OpcodeRow.accepts, (encode_update_and b).1]⟩

theorem final : Statement .final := by
  refine ⟨by decide, _, List.mem_of_getElem? (i := 8) rfl, rfl, by decide⟩

end Sys2Proof.Laws.EncodedRow
end

