-- ==== Sys2Proof/Tests/Slice0.lean ====
section
/-! SUPPORT. The model's own tests: expected values from the spec's encodings (R81, R83) and test vectors
(spec/95_test_vectors.md), a term each well-formedness check refuses, and a witness for the hypotheses of every
statement that has some. -/

set_option maxRecDepth 20000

namespace Sys2Proof.Tests

open Sys2Proof.Machine

/-- The next state of an outcome, if it is one. -/
def stateOf (o : Host.Outcome State Fault Refusal) : Option State :=
  match o with
  | .next s => some s
  | .fault _ => none
  | .refused _ => none

/-- The engine from reset with a digest active on the given register and input reflection. -/
def running (v : Half) (refin : Bool) : State :=
  { State.reset with active := true, value := v, actRefin := refin }

/-- A state the pins drive next with the given edge. -/
def atEdge (e : Edge) (s : State) : State := { s with port := [e] }

/-! ### Well-formedness: a term each check refuses -/

theorem test_reserved_opcode_illFormed : opcodeDefined 0x90000000#32 = false ∧ wellFormedWord 0x90000000#32 = false := by
  decide

theorem test_rsv_illFormed : reservedClear 0x1001C6C6#32 = false ∧ wellFormedWord 0x1001C6C6#32 = false := by decide

theorem test_layoutZ_illFormed : wellFormedWord 0x60000001#32 = false ∧ wellFormedWord 0x80008000#32 = false := by decide

theorem test_layoutF_illFormed : wellFormedWord 0x30000004#32 = false := by decide

theorem test_layoutB_illFormed : wellFormedWord 0x70000100#32 = false := by decide

theorem test_operand_too_wide :
    [AsmLine.setinit 0x10000, .setxorout 0x10000, .setcheck 0x10000, .setresidue 0x10000, .update 0x100,
      .setflags 2 0, .setflags 0 2, .word 0x100000000].all (fun l => l.fits == false) = true := by decide

/-! ### Decoding: each constructor by a word written out from R72's patterns -/

theorem test_decode_nop : decode 0b00000000000000000000000000000000#32 = .command .nop := by decide
theorem test_decode_setinit : decode 0b00010000000000001100011011000110#32 = .command (.setinit 0xC6C6#16) := by decide
theorem test_decode_setxorout :
    decode 0b00100000000000001111111111111111#32 = .command (.setxorout 0xFFFF#16) := by decide
theorem test_decode_setflags :
    decode 0b00110000000000000000000000000001#32 = .command (.setflags true false) := by decide
theorem test_decode_setcheck : decode 0b01000000000000001001000001101110#32 = .command (.setcheck 0x906E#16) := by decide
theorem test_decode_setresidue :
    decode 0b01010000000000001111000010111000#32 = .command (.setresidue 0xF0B8#16) := by decide
theorem test_decode_start : decode 0b01100000000000000000000000000000#32 = .command .start := by decide
theorem test_decode_update : decode 0b01110000000000000000000000110001#32 = .command (.update 0x31#8) := by decide
theorem test_decode_final : decode 0b10000000000000000000000000000000#32 = .command .final := by decide

/-- Section 2.5's error rows, and R205's priority. -/
theorem test_decode_errors :
    [0x00000001#32, 0x00010000#32, 0x1001C6C6#32, 0x30000004#32, 0x60000001#32, 0x70000100#32, 0x80008000#32].all
      (fun w => decode w == .error .reservedBits) = true ∧
    [0x90000000#32, 0xF0000000#32, 0xFFFFFFFF#32, 0x9FFFFFFF#32].all
      (fun w => decode w == .error .illegalOp) = true := by decide

theorem test_decodeTableWord : decodeTableWord 32 0x700000FF = some (.update 0xFF#8) ∧ decodeTableWord 32 0x90000000 = none := by
  decide

/-! ### The datapath against spec/95_test_vectors.md sections 2.1 to 2.4 -/

theorem test_reflect8 : reflect8 0x12#8 = 0x48#8 ∧ reflect8 0x0F#8 = 0xF0#8 := by decide
theorem test_reflect16 : reflect16 0x1234#16 = 0x2C48#16 ∧ reflect16 0x1D0F#16 = 0xF0B8#16 := by decide
theorem test_prim_general : prim 0x1234#16 0x56#8 = 0x4006#16 ∧ prim 0x6363#16 0x31#8 = 0x71F4#16 := by decide
theorem test_prim_truncates : prim 0x0000#16 0x80#8 = 0x8408#16 ∧ prim 0x0000#16 0xFF#8 = 0x0F78#16 := by decide
theorem test_bitserial8 : bitserial8 0x1234#16 0x56#8 = 0x4006#16 := by decide
theorem test_init_policies :
    initValue .onRefin false 0x1D0F#16 = 0x1D0F#16 ∧ initValue .always false 0x1D0F#16 = 0xF0B8#16 ∧
    initValue .onRefin true 0xC6C6#16 = 0x6363#16 := by decide
theorem test_finish : finish false 0xFFFF#16 0x1234#16 = 0xD3B7#16 ∧ finish true 0xFFFF#16 0x1234#16 = 0xEDCB#16 := by decide

/-- Section 2.6: the two policies on SPI-FUJITSU's init, the second value general knowledge (G3). -/
theorem test_policies_differ :
    crc .onRefin ⟨0x1D0F#16, false, false, 0x0000#16, 0x0000#16, 0x0000#16⟩ checkString = 0x802D#16 ∧
    crc .always ⟨0x1D0F#16, false, false, 0x0000#16, 0x0000#16, 0x0000#16⟩ checkString = 0xE5CC#16 := by decide

/-! ### The commands, one step each -/

theorem test_nop : stateOf (exec .nop (running 0x1234#16 false)) = some (running 0x1234#16 false) := by decide

theorem test_setinit_unreflected :
    (stateOf (exec (.setinit 0xC6C6#16) { State.reset with cfgRefin := true })).map (·.read 0x1#4) = some 0xC6C6#16 := by
  decide

theorem test_setxorout : (stateOf (exec (.setxorout 0xFFFF#16) State.reset)).map (·.read 0x2#4) = some 0xFFFF#16 := by decide

theorem test_setflags_one_each :
    (stateOf (exec (.setflags true false) State.reset)).map (·.read 0x3#4) = some 0x0001#16 ∧
    (stateOf (exec (.setflags false true) State.reset)).map (·.read 0x3#4) = some 0x0002#16 := by decide

theorem test_setcheck : (stateOf (exec (.setcheck 0x2189#16) State.reset)).map (·.read 0x4#4) = some 0x2189#16 := by decide

theorem test_setresidue : (stateOf (exec (.setresidue 0xF0B8#16) State.reset)).map (·.read 0x5#4) = some 0xF0B8#16 := by decide

/-- R151's example. -/
theorem test_start :
    (stateOf (exec .start { State.reset with cfgInit := 0xC6C6#16, cfgRefin := true })).map
      (fun t => (t.read 0x6#4, t.read 0x0#4)) = some (0x6363#16, 0x0001#16) := by decide

/-- Program P3, rows 19 and 20: START after an error, with a stale RESULT. -/
theorem test_start_after_error :
    (stateOf (exec .start { State.reset with cfgInit := 0xFFFF#16, value := 0x6F91#16, result := 0x906E#16,
                                             rvalid := true, err := true, errCause := 0x3#4 })).map
      (fun t => (t.read 0x6#4, t.read 0x0#4, t.read 0x7#4)) = some (0xFFFF#16, 0x0035#16, 0x906E#16) := by decide

/-- R154's example, and program P2's first byte. -/
theorem test_update :
    (stateOf (exec (.update 0x31#8) (running 0x0000#16 false))).map (·.value) = some 0x4E64#16 ∧
    (stateOf (exec (.update 0x31#8) (running 0x0000#16 true))).map (·.value) = some 0x200A#16 := by decide

/-- Section 2.6's lifecycle corner: UPDATE from reset. -/
theorem test_update_without_digest :
    (stateOf (exec (.update 0x41#8) State.reset)).map (fun t => (t.read 0x0#4, t.read 0x6#4)) =
      some (0x0034#16, 0x0000#16) := by decide

/-- R157's example. -/
theorem test_final :
    (stateOf (exec .final { running 0x6F91#16 true with actRefout := true, actXorout := 0xFFFF#16 })).map
      (fun t => (t.read 0x7#4, t.read 0x0#4, t.read 0x6#4)) = some (0x906E#16, 0x0002#16, 0x6F91#16) := by decide

/-- A second FINAL keeps the first one's result. -/
theorem test_final_twice :
    (stateOf (exec .final { State.reset with rvalid := true, result := 0x1234#16 })).map
      (fun t => (t.read 0x7#4, t.read 0x0#4)) = some (0x1234#16, 0x0036#16) := by decide

/-! ### Steps -/

/-- Program P4, row 1, and that the first cause stays (row 2). -/
theorem test_first_cause_stays :
    (stateOf (step (State.reset.present [0x9FFFFFFF#32]))).map (·.read 0x0#4) = some 0x0014#16 ∧
    (stateOf (step ({ State.reset with err := true, errCause := 0x1#4 }.present [0x70000100#32]))).map (·.read 0x0#4) =
      some 0x0014#16 := by decide

/-- R232: reset beats the command presented at the same edge. -/
theorem test_reset_beats_command :
    stateOf (step (atEdge { Edge.ofWord 0x60000000#32 with rst := true } (running 0x1234#16 true))) = some State.reset := by
  decide

theorem test_withFetchWord :
    (stateOf (step (State.reset.withFetchWord 32 0x60000000))).map (·.active) = some true := by decide

theorem test_ready_and_rdData :
    State.reset.cmdReady = true ∧ State.reset.rdData { Edge.ofWord 0#32 with rdSel := 0x4#4 } = 0x31C3#16 := by decide

theorem test_params_of_builds :
    (State.resetWith .onRefin).read 0x8#4 = 0x0000#16 ∧ (State.resetWith .always).read 0x8#4 = 0x0001#16 := by decide

/-! ### The assembler, from R81 to R83 -/

theorem test_asm_lines :
    assembleText "setflags refin=0, refout=1" = some [0x30000002#32] ∧
    assembleText "UPDATE '1' ; first byte" = some [0x70000031#32] ∧
    assembleText ".word 0x9FFFFFFF" = some [0x9FFFFFFF#32] := by decide

theorem test_asm_rejects :
    assembleText "setinit 0x10000" = none ∧ assembleText "update 256" = none ∧ assembleText "halt" = none := by decide

theorem test_asm_pseudo :
    assembleText "checksum \"\"" = some [0x60000000#32, 0x80000000#32] ∧
    assembleText "ustr \"A;\"" = some [0x70000041#32, 0x7000003B#32] ∧
    assembleText "ubytes 0x41, 0b10, 'z'" = some [0x70000041#32, 0x70000002#32, 0x7000007A#32] := by decide

/-- What log entry 7 fixes: no escapes, blank and comment-only lines. -/
theorem test_asm_choices :
    assembleText "ustr \"a\\n\"" = some [0x70000061#32, 0x7000005C#32, 0x7000006E#32] ∧
    assembleText "ustr \"a\"b\"" = none ∧ assembleText "update '''" = some [0x70000027#32] ∧
    assembleText " ; only a comment" = some [] ∧ assembleText "" = some [] := by decide

/-- Program P2's configuration. -/
theorem test_asm_cfg :
    assembleText "cfg init=0x0000, refin=1, refout=1, xorout=0x0000, check=0x2189, residue=0x0000" =
      some [0x10000000#32, 0x30000003#32, 0x20000000#32, 0x40002189#32, 0x50000000#32] ∧
    assembleText "cfg.KERMIT" = assembleText "cfg init=0, refin=1, refout=1, xorout=0, check=0x2189, residue=0" := by
  decide

/-! ### Witnesses: a concrete state and operands for the hypotheses of each statement that has some -/

theorem witness_EncodeOfDecodeIsTheWord : decode 0x70000041#32 = .command (.update 0x41#8) := by decide

theorem witness_ReservedBitsAreRefused :
    opcodeDefined 0x8FFFFFFF#32 = true ∧ reservedClear 0x8FFFFFFF#32 = false ∧
    opcodeDefined 0x80000000#32 = true ∧ reservedClear 0x80000000#32 = true := by decide

theorem witness_AssemblerEmitsTheEncodings :
    (AsmLine.update 255).fits = true ∧ asmCommand (.update 255) = some (.update 0xFF#8) ∧
    (4294967295 : Nat) < 2 ^ 32 ∧ (AsmLine.update 256).fits = false := by decide

theorem witness_StepRunsTheDecodedCommand :
    (State.reset.present [0x60000000#32]).port = Edge.ofWord 0x60000000#32 :: [] ∧
    (Edge.ofWord 0x60000000#32).rst = false ∧ (Edge.ofWord 0x60000000#32).cmdValid = true ∧
    decode (Edge.ofWord 0x60000000#32).cmdData = .command .start := by decide

theorem witness_StepRecordsADecodeError :
    (State.reset.present [0x90000000#32]).port = Edge.ofWord 0x90000000#32 :: [] ∧
    (Edge.ofWord 0x90000000#32).rst = false ∧ (Edge.ofWord 0x90000000#32).cmdValid = true ∧
    decode (Edge.ofWord 0x90000000#32).cmdData = .error .illegalOp := by decide

theorem witness_IdleEdgeChangesNothing :
    (atEdge ⟨false, false, 0x60000000#32, 0x0#4⟩ State.reset).port = ⟨false, false, 0x60000000#32, 0x0#4⟩ :: [] ∧
    State.reset.port = [] := by decide

theorem witness_ResetEdgeGivesResetValues :
    (atEdge ⟨true, true, 0x60000000#32, 0x0#4⟩ (running 0x1234#16 true)).port =
      ⟨true, true, 0x60000000#32, 0x0#4⟩ :: [] := by decide

theorem witness_reserved_word_of_each_opcode :
    [(0x0#32, 0x0FFFFFFF#32, 0x00000001#32), (0x1#32, 0x0FFF0000#32, 0x10010000#32),
      (0x2#32, 0x0FFF0000#32, 0x28000000#32), (0x3#32, 0x0FFFFFFC#32, 0x30000004#32),
      (0x4#32, 0x0FFF0000#32, 0x40010000#32), (0x5#32, 0x0FFF0000#32, 0x58000000#32),
      (0x6#32, 0x0FFFFFFF#32, 0x60000001#32), (0x7#32, 0x0FFFFF00#32, 0x70000100#32),
      (0x8#32, 0x0FFFFFFF#32, 0x88000000#32)].all
      (fun p => p.2.2 >>> 28 == p.1 && p.2.2 &&& p.2.1 != 0#32) = true := by decide

theorem witness_SetinitWritesCfgInit : ({ State.reset with cfgRefin := true } : State).cfgRefin = true := by decide

theorem witness_check_and_residue_unused :
    stateOf (acceptWord 0x40002189#32 State.reset) = some { State.reset with cfgCheck := 0x2189#16 } ∧
    stateOf (acceptWord 0x5000F0B8#32 State.reset) = some { State.reset with cfgResidue := 0xF0B8#16 } := by decide

theorem witness_ConfigurationCommandsCommute :
    isConfiguration (.setinit 0xFFFF#16) = true ∧ isConfiguration (.setflags true true) = true ∧
    (Instr.setinit 0xFFFF#16).opcode ≠ (Instr.setflags true true).opcode := by decide

theorem witness_StartBeginsADigest :
    ({ State.reset with cfgInit := 0xC6C6#16, cfgRefin := true } : State).cfgInit = 0xC6C6#16 ∧
    ({ State.reset with cfgInit := 0xC6C6#16, cfgRefin := true } : State).cfgRefin = true := by decide

theorem witness_StartForgetsTheRunningDigest :
    running 0x1234#16 true ≠ State.reset ∧
    { State.reset with
      value := (running 0x1234#16 true).value, actRefin := (running 0x1234#16 true).actRefin,
      actRefout := (running 0x1234#16 true).actRefout, actXorout := (running 0x1234#16 true).actXorout,
      active := (running 0x1234#16 true).active, rvalid := (running 0x1234#16 true).rvalid } =
      running 0x1234#16 true := by decide

theorem witness_UpdateFoldsOneByte :
    (running 0xABCD#16 true).active = true ∧ (running 0xABCD#16 true).actRefin = true ∧ State.reset.active = false ∧
    (running 0x0000#16 false).active = true ∧ (running 0x0000#16 false).value = 0x0000#16 ∧
    (running 0x0000#16 false).actRefin = false := by decide

theorem witness_FinalProducesTheChecksum :
    let s := { running 0x6F91#16 true with actRefout := true, actXorout := 0xFFFF#16 }
    s.active = true ∧ s.value = 0x6F91#16 ∧ s.actRefout = true ∧ s.actXorout = 0xFFFF#16 ∧
    State.reset.active = false := by decide

theorem witness_RegistersChangeOnlyByTheirWriters :
    stateOf (acceptWord 0x10001234#32 (running 0x0000#16 false)) =
      some { running 0x0000#16 false with cfgInit := 0x1234#16 } ∧
    decode 0x10001234#32 = .command (.setinit 0x1234#16) ∧ decode 0x10001234#32 ≠ .command .start ∧
    decode 0x10001234#32 ≠ .command .final ∧ (running 0x0000#16 false).active = true ∧
    decode 0x00000000#32 = .command .nop := by decide

/-- A word that is none of a register's writers, for the clauses whose hypothesis is that. -/
theorem witness_no_writer :
    (∀ v, decode 0x00000000#32 ≠ .command (.setinit v)) ∧ (∀ v, decode 0x00000000#32 ≠ .command (.setxorout v)) ∧
    (∀ i o, decode 0x00000000#32 ≠ .command (.setflags i o)) ∧ (∀ v, decode 0x00000000#32 ≠ .command (.setcheck v)) ∧
    (∀ v, decode 0x00000000#32 ≠ .command (.setresidue v)) ∧ (∀ b, decode 0x00000000#32 ≠ .command (.update b)) := by
  have h : decode 0x00000000#32 = .command .nop := by decide
  simp [h]

theorem witness_CausesAreRaisedExactlyWhere : State.reset.err = false ∧ State.reset.errCause = 0x0#4 := by decide

theorem witness_MisuseIsRecordedAndIgnored :
    wellFormedWord 0x700000FF#32 = true ∧ 0x700000FF#32 >>> 28 = 0x7#32 ∧ wellFormedWord 0x80000000#32 = true ∧
    0x80000000#32 >>> 28 = 0x8#32 ∧ State.reset.active = false := by decide

theorem witness_FirstErrorIsKeptUntilReset :
    let s := { State.reset with err := true, errCause := 0x1#4 }.present [0x70000041#32]
    s.port = Edge.ofWord 0x70000041#32 :: [] ∧ (Edge.ofWord 0x70000041#32).rst = false ∧ s.err = true ∧
    stateOf (step s) = some { State.reset with err := true, errCause := 0x1#4 } ∧ State.reset.err = false ∧
    let r := atEdge ⟨true, false, 0x00000000#32, 0x0#4⟩ s
    r.port = ⟨true, false, 0x00000000#32, 0x0#4⟩ :: [] ∧ (stateOf (step r)).map (·.err) = some false := by decide

theorem witness_ErrorRecordSteersNothing :
    let s := State.reset.present [0x60000000#32]
    let t := { State.reset with err := true, errCause := 0x3#4 }.present [0x60000000#32]
    s ≠ t ∧ State.AgreeButError s t ∧ (stateOf (step s)).isSome = true ∧ (stateOf (step t)).isSome = true := by decide

theorem witness_StatusBitsByCommand :
    isConfiguration (.setcheck 0x0000#16) = true ∧ (running 0x0000#16 true).active = true ∧
    State.reset.active = false ∧ decode 0x80000001#32 = .error .reservedBits := by decide

theorem witness_ReadMap : 9 ≤ (0x9#4 : Nibble).toNat ∧ 9 ≤ (0xF#4 : Nibble).toNat := by decide

theorem witness_ParamsIsFixed :
    (State.resetWith .onRefin).pInitReflect = .onRefin ∧ (State.resetWith .always).pInitReflect = .always ∧
    stateOf (step (State.resetWith .always)) = some (State.resetWith .always) := by decide

theorem witness_ReflectorReversesBits : (7 : Nat) < 8 ∧ (15 : Nat) < 16 := by decide

theorem witness_InitPoliciesDifferExactlyWhere : reflect16 0x1D0F#16 ≠ 0x1D0F#16 := by decide

/-- A NOP, a SETFLAGS, an UPDATE and a reserved word between START and FINAL. -/
theorem witness_InterleavedWordsDoNotDisturbADigest :
    (running 0x0000#16 false).active = true ∧
    ∀ w ∈ [0x00000000#32, 0x30000003#32, 0x70000041#32, 0x90000000#32],
      decode w ≠ .command .start ∧ decode w ≠ .command .final := by
  refine ⟨by decide, fun w hw => ?_⟩
  fin_cases hw <;> decide

/-- Both sides of the condition: a palindrome, and an init that is none under each build. -/
theorem witness_UnreflectedDigestMirrorsMsbFirstUnderAlwaysOrPalindrome :
    reflect16 0x8001#16 = 0x8001#16 ∧ reflect16 0x1D0F#16 ≠ 0x1D0F#16 ∧ (State.resetWith .always).cfgRefin = false ∧
    ({ State.reset with cfgInit := 0x1D0F#16 } : State).cfgRefin = false := by decide

/-- A digest in progress, and a message in a chunk of two bytes, an empty one and one of a single byte. -/
theorem witness_ChunkingIsInvisible :
    (running 0x0000#16 true).active = true ∧ [[0x31#8, 0x32#8], [], [0x33#8]].flatten = [0x31#8, 0x32#8, 0x33#8] := by
  decide

theorem witness_EqualConfigurationsGiveEqualResults :
    let s := State.reset
    let t := { running 0x1234#16 true with cfgCheck := 0x0000#16, cfgResidue := 0xF0B8#16 }
    s ≠ t ∧ s.cfgInit = t.cfgInit ∧ s.cfgRefin = t.cfgRefin ∧ s.cfgRefout = t.cfgRefout ∧ s.cfgXorout = t.cfgXorout ∧
    s.pInitReflect = t.pInitReflect := by decide

theorem witness_StepKeepsTheInvariant :
    let s := { running 0x1234#16 true with actXorout := 0xFFFF#16 }.present [0x80000000#32]
    s.Inv ∧ (stateOf (step s)).map (·.rvalid) = some true := by decide

end Sys2Proof.Tests
end

section
/-! SUPPORT. The engine's state over its commands and steps (spec/10_state.md): what each command can do, said once as
a relation, and from it the invariant, the writers of each register, the error record, the status bits and PARAMS. -/

namespace Sys2Proof.Machine

/-! ### What a command can do -/

/-- The outcomes a command can have in the state `s`: one per command, its guard included, and NO_DIGEST for the two
commands that need a digest (R131, R150, R201). -/
inductive Effect (s : State) : Instr → State → Prop
  | nop : Effect s .nop s
  | setinit (v : Half) : Effect s (.setinit v) (s.writeInit v)
  | setxorout (v : Half) : Effect s (.setxorout v) (s.writeXorout v)
  | setflags (i o : Bool) : Effect s (.setflags i o) (s.writeFlags i o)
  | setcheck (v : Half) : Effect s (.setcheck v) (s.writeCheck v)
  | setresidue (v : Half) : Effect s (.setresidue v) (s.writeResidue v)
  | start : Effect s .start (s.writeValue s.initStage).takeSnapshot.markStarted
  | update (b : Byte) (ha : s.active = true) : Effect s (.update b) (s.writeValue (s.foldStage b))
  | final (ha : s.active = true) : Effect s .final (s.writeResult s.finalStage).markFinished
  | noDigest {i : Instr} (hi : i = .final ∨ ∃ b, i = .update b) (ha : s.active = false) :
      Effect s i (s.recordError .noDigest)

theorem exec_update_active (b : Byte) (s : State) (ha : s.active = true) :
    exec (.update b) s = .next (s.writeValue (s.foldStage b)) := by
  rw [exec, execUpdate, requireDigest_active _ s ha]

theorem exec_final_active (s : State) (ha : s.active = true) :
    exec .final s = .next (s.writeResult s.finalStage).markFinished := by
  rw [exec, execFinal, requireDigest_active _ s ha]

/-- Without a digest, UPDATE and FINAL do nothing but record NO_DIGEST (R201). -/
theorem exec_inactive {i : Instr} (s : State) (hi : i = .final ∨ ∃ b, i = .update b) (ha : s.active = false) :
    exec i s = .next (s.recordError .noDigest) := by
  obtain rfl | ⟨b, rfl⟩ := hi
  · rw [exec, execFinal, requireDigest_inactive _ s ha]
  · rw [exec, execUpdate, requireDigest_inactive _ s ha]

/-- `Effect` is `exec`, read as a relation. -/
theorem exec_eq_next_iff {i : Instr} {s t : State} : exec i s = .next t ↔ Effect s i t := by
  constructor
  · intro h
    cases i with
    | nop => cases h; exact .nop
    | setinit v => cases h; exact .setinit v
    | setxorout v => cases h; exact .setxorout v
    | setflags i o => cases h; exact .setflags i o
    | setcheck v => cases h; exact .setcheck v
    | setresidue v => cases h; exact .setresidue v
    | start => cases h; exact .start
    | update b =>
      cases ha : s.active
      · rw [exec_inactive s (.inr ⟨b, rfl⟩) ha] at h
        cases h; exact .noDigest (.inr ⟨b, rfl⟩) ha
      · rw [exec_update_active b s ha] at h
        cases h; exact .update b ha
    | final =>
      cases ha : s.active
      · rw [exec_inactive s (.inl rfl) ha] at h
        cases h; exact .noDigest (.inl rfl) ha
      · rw [exec_final_active s ha] at h
        cases h; exact .final ha
  · intro h
    cases h with
    | update b ha => exact exec_update_active b s ha
    | final ha => exact exec_final_active s ha
    | noDigest hi ha => exact exec_inactive s hi ha
    | _ => rfl

/-- An accepted word has its command's effect, or records its decode error and does nothing else. -/
theorem acceptWord_effect {w : CmdWord} {s t : State} (h : acceptWord w s = .next t) :
    (∃ i, decode w = .command i ∧ Effect s i t) ∨ (∃ c, decode w = .error c ∧ t = s.recordError c) := by
  obtain ⟨i, hd, he⟩ | ⟨c, hd, he⟩ := acceptWord_cases w s
  · exact .inl ⟨i, hd, exec_eq_next_iff.mp (he.symm.trans h)⟩
  · rw [he] at h
    cases h
    exact .inr ⟨c, hd, rfl⟩

/-! ### The invariant, operation by operation -/

variable {s t : State}

/-- The record stays well formed: a first cause has one of the three codes (R35, R200). -/
theorem State.Inv.recordError (h : s.Inv) (c : Cause) : (s.recordError c).Inv := by
  obtain ⟨hrec, hlife, hres, hun⟩ := h
  cases he : s.err
  · rw [s.recordError_of_noErr c he]
    exact ⟨⟨nofun, fun _ => by cases c <;> simp [causeCode]⟩, hlife, hres, hun⟩
  · rw [s.recordError_of_err c he]
    exact ⟨hrec, hlife, hres, hun⟩

/-- START leaves a digest active and no valid RESULT, whatever VALUE and the snapshot become (R151). -/
theorem State.Inv.start (h : s.Inv) : (s.writeValue s.initStage).takeSnapshot.markStarted.Inv := by
  obtain ⟨hrec, -⟩ := h
  exact ⟨hrec, by simp, by simp, by simp⟩

/-- With a digest active there is no valid RESULT that VALUE would have to agree with (R33, R34). -/
theorem State.Inv.writeValue (h : s.Inv) (ha : s.active = true) (v : Half) : (s.writeValue v).Inv := by
  obtain ⟨hrec, hlife, -⟩ := h
  have hr : s.rvalid = false := by simpa [ha] using hlife
  exact ⟨hrec, hlife, by simp [hr], by simp [ha]⟩

/-- FINAL makes RESULT the finalize stage of the VALUE and snapshot it keeps (R157). -/
theorem State.Inv.finish (h : s.Inv) : (s.writeResult s.finalStage).markFinished.Inv := by
  obtain ⟨hrec, -⟩ := h
  exact ⟨hrec, by simp, fun _ => rfl, by simp⟩

/-- The reset values meet the invariant, whatever is still to come on the port (R39, R230). -/
theorem State.applyReset_inv (s : State) : s.applyReset.Inv := by
  refine ⟨⟨?_, ?_⟩, ?_, ?_, ?_⟩ <;> simp

/-- NOP and the configuration commands write no register the invariant speaks of (R131), so it is carried over as it
is; the other commands have a lemma each. -/
theorem Effect.inv {i : Instr} (he : Effect s i t) (h : s.Inv) : t.Inv := by
  cases he with
  | start => exact h.start
  | update b ha => exact h.writeValue ha _
  | final ha => exact h.finish
  | noDigest hi ha => exact h.recordError .noDigest
  | _ => exact h

theorem acceptWord_inv {w : CmdWord} (h : s.Inv) (ht : acceptWord w s = .next t) : t.Inv := by
  obtain ⟨i, -, he⟩ | ⟨c, -, rfl⟩ := acceptWord_effect ht
  · exact he.inv h
  · exact h.recordError c

/-- Settles O54: by the kinds of step, and for an accepted word by its command's effect. -/
theorem stepKeepsTheInvariant : Obligations.StepKeepsTheInvariant := by
  intro s t h ht
  obtain ⟨-, rfl⟩ | ⟨e, es, -, ⟨-, rfl⟩ | ⟨-, -, rfl⟩ | ⟨-, -, ha⟩⟩ := step_cases s t ht
  · exact h
  · exact State.applyReset_inv _
  · exact h
  · exact acceptWord_inv (s := s.withPort es) h ha

/-! ### Frames: the build parameter, the port and the error record -/

/-- No command writes the build parameter or the port (R36, R60). -/
theorem Effect.fixed {i : Instr} (he : Effect s i t) : t.pInitReflect = s.pInitReflect ∧ t.port = s.port := by
  cases he <;> simp

theorem acceptWord_fixed {w : CmdWord} (h : acceptWord w s = .next t) :
    t.pInitReflect = s.pInitReflect ∧ t.port = s.port := by
  obtain ⟨i, -, he⟩ | ⟨c, -, rfl⟩ := acceptWord_effect h
  · exact he.fixed
  · simp

/-- No step writes the build parameter, a reset edge included (R36). -/
theorem step_pInitReflect (h : step s = .next t) : t.pInitReflect = s.pInitReflect := by
  obtain ⟨-, rfl⟩ | ⟨e, es, -, ⟨-, rfl⟩ | ⟨-, -, rfl⟩ | ⟨-, -, ha⟩⟩ := step_cases s t h
  · rfl
  · rfl
  · rfl
  · exact (acceptWord_fixed ha).1

/-- The error record after a command: as it was, but for NO_DIGEST (R35). -/
theorem Effect.record {i : Instr} (he : Effect s i t) :
    (t.err = s.err ∧ t.errCause = s.errCause) ∨ (s.active = false ∧ t = s.recordError .noDigest) := by
  cases he with
  | noDigest hi ha => exact .inr ⟨ha, rfl⟩
  | _ => exact .inl ⟨rfl, rfl⟩

/-- A record that is set stays as it is over every accepted word (R35, R203). -/
theorem acceptWord_keepsRecord {w : CmdWord} (hs : s.err = true) (h : acceptWord w s = .next t) :
    t.err = true ∧ t.errCause = s.errCause := by
  obtain ⟨i, -, he⟩ | ⟨c, -, rfl⟩ := acceptWord_effect h
  · obtain ⟨herr, hcause⟩ | ⟨-, rfl⟩ := he.record
    · exact ⟨herr.trans hs, hcause⟩
    · simp [hs]
  · simp [hs]

/-! ### The writers of each register (R22) -/

/-- The configuration registers after a word that is none of their writers. -/
theorem acceptWord_configuration {w : CmdWord} (h : acceptWord w s = .next t) :
    ((∀ v, decode w ≠ .command (.setinit v)) → t.cfgInit = s.cfgInit) ∧
    ((∀ v, decode w ≠ .command (.setxorout v)) → t.cfgXorout = s.cfgXorout) ∧
    ((∀ i o, decode w ≠ .command (.setflags i o)) → t.cfgRefin = s.cfgRefin ∧ t.cfgRefout = s.cfgRefout) ∧
    ((∀ v, decode w ≠ .command (.setcheck v)) → t.cfgCheck = s.cfgCheck) ∧
    ((∀ v, decode w ≠ .command (.setresidue v)) → t.cfgResidue = s.cfgResidue) := by
  obtain ⟨i, hd, he⟩ | ⟨c, -, rfl⟩ := acceptWord_effect h
  · cases he <;> simp [hd]
  · simp

/-- The digest's registers and its status bits after a word that is none of their writers. -/
theorem acceptWord_digest {w : CmdWord} (h : acceptWord w s = .next t) :
    (decode w ≠ .command .start → (∀ b, decode w ≠ .command (.update b)) → t.value = s.value) ∧
    (decode w ≠ .command .final → t.result = s.result) ∧
    (decode w ≠ .command .start →
      t.actRefin = s.actRefin ∧ t.actRefout = s.actRefout ∧ t.actXorout = s.actXorout) ∧
    (decode w ≠ .command .start → decode w ≠ .command .final → t.active = s.active ∧ t.rvalid = s.rvalid) := by
  obtain ⟨i, hd, he⟩ | ⟨c, -, rfl⟩ := acceptWord_effect h
  · cases he <;> simp [hd]
  · simp

/-- A command with a digest active raises no error (R201). -/
theorem acceptWord_record_of_active {w : CmdWord} (h : acceptWord w s = .next t)
    (hw : ∃ i, decode w = .command i) (ha : s.active = true) : t.err = s.err ∧ t.errCause = s.errCause := by
  obtain ⟨i, -, he⟩ | ⟨c, hd, -⟩ := acceptWord_effect h
  · exact he.record.resolve_right fun ⟨hn, _⟩ => by simp [ha] at hn
  · simp [hd] at hw

/-- Settles O29: the frames of the configuration, of the digest, of the record and of the fixed fields, together. -/
theorem registersChangeOnlyByTheirWriters : Obligations.RegistersChangeOnlyByTheirWriters := by
  intro w s t h
  obtain ⟨hinit, hxorout, hflags, hcheck, hresidue⟩ := acceptWord_configuration h
  obtain ⟨hvalue, hresult, hsnapshot, hstatus⟩ := acceptWord_digest h
  exact ⟨hinit, hxorout, hflags, hcheck, hresidue, hvalue, hresult, hsnapshot, hstatus,
    acceptWord_record_of_active h, acceptWord_fixed h⟩

/-! ### The error record -/

/-- Settles O32: the record's two cases, and the kinds of edge. -/
theorem firstErrorIsKeptUntilReset : Obligations.FirstErrorIsKeptUntilReset := by
  refine ⟨fun c s he => ?_, fun c s he => ?_, fun s t e es hp hr he ht => ?_, fun s t e es hp hr ht => ?_⟩
  · rw [raiseCmdError_eq, s.recordError_of_noErr c he]
  · rw [raiseCmdError_eq, s.recordError_of_err c he]
  · rw [step_edge s e es hp] at ht
    cases hv : e.cmdValid
    · rw [clockEdge_idle e _ hr hv] at ht
      cases ht
      exact ⟨he, rfl⟩
    · rw [clockEdge_command e _ hr hv] at ht
      exact acceptWord_keepsRecord (s := s.withPort es) he ht
  · rw [step_edge s e es hp, clockEdge_reset e _ hr] at ht
    cases ht
    exact ⟨rfl, rfl⟩

/-- Agreement but for the record, as a change of the record. -/
theorem State.agreeButError_iff : State.AgreeButError s t ↔ ∃ e c, t = { s with err := e, errCause := c } := by
  constructor
  · exact fun h => ⟨t.err, t.errCause, h.symm⟩
  · rintro ⟨e, c, rfl⟩
    rfl

theorem State.AgreeButError.symm (h : State.AgreeButError s t) : State.AgreeButError t s := by
  obtain ⟨e, c, rfl⟩ := State.agreeButError_iff.mp h
  rfl

theorem State.AgreeButError.trans {u : State} (h : State.AgreeButError s t) (h' : State.AgreeButError t u) :
    State.AgreeButError s u := by
  obtain ⟨e, c, rfl⟩ := State.agreeButError_iff.mp h
  exact h'

theorem State.AgreeButError.withPort (h : State.AgreeButError s t) (es : List Edge) :
    State.AgreeButError (s.withPort es) (t.withPort es) := by
  obtain ⟨e, c, rfl⟩ := State.agreeButError_iff.mp h
  rfl

/-- Recording an error changes the record only (R203). -/
theorem State.agreeButError_recordError (s : State) (c : Cause) : State.AgreeButError s (s.recordError c) := by
  cases he : s.err
  · rw [s.recordError_of_noErr c he]
  · rw [s.recordError_of_err c he]

theorem State.AgreeButError.recordError (h : State.AgreeButError s t) (c d : Cause) :
    State.AgreeButError (s.recordError c) (t.recordError d) :=
  (s.agreeButError_recordError c).symm.trans (h.trans (t.agreeButError_recordError d))

/-- No command's effect reads the record: in a state that differs in it alone, the guard decides the same way and
the writes are the same (R35, R206). -/
theorem Effect.of_agreeButError {i : Instr} {s' : State} (he : Effect s i s') (h : State.AgreeButError s t) :
    ∃ t', Effect t i t' ∧ State.AgreeButError s' t' := by
  obtain ⟨err, c, rfl⟩ := State.agreeButError_iff.mp h
  cases he with
  | nop => exact ⟨_, .nop, rfl⟩
  | setinit v => exact ⟨_, .setinit v, rfl⟩
  | setxorout v => exact ⟨_, .setxorout v, rfl⟩
  | setflags i o => exact ⟨_, .setflags i o, rfl⟩
  | setcheck v => exact ⟨_, .setcheck v, rfl⟩
  | setresidue v => exact ⟨_, .setresidue v, rfl⟩
  | start => exact ⟨_, .start, rfl⟩
  | update b ha => exact ⟨_, .update b ha, rfl⟩
  | final ha => exact ⟨_, .final ha, rfl⟩
  | noDigest hi ha => exact ⟨_, .noDigest hi ha, h.recordError _ _⟩

theorem acceptWord_agreeButError {w : CmdWord} {s' t' : State} (h : State.AgreeButError s t)
    (hs : acceptWord w s = .next s') (ht : acceptWord w t = .next t') : State.AgreeButError s' t' := by
  cases hd : decode w with
  | command i =>
    rw [acceptWord_command w _ i hd, exec_eq_next_iff] at hs ht
    obtain ⟨u, hu, hagree⟩ := hs.of_agreeButError h
    cases (exec_eq_next_iff.mpr hu).symm.trans (exec_eq_next_iff.mpr ht)
    exact hagree
  | error c =>
    rw [acceptWord_error w _ c hd] at hs ht
    cases hs
    cases ht
    exact h.recordError c c

theorem clockEdge_agreeButError {e : Edge} {s' t' : State} (h : State.AgreeButError s t)
    (hs : clockEdge e s = .next s') (ht : clockEdge e t = .next t') : State.AgreeButError s' t' := by
  cases hr : e.rst with
  | true =>
    rw [clockEdge_reset e _ hr] at hs ht
    cases hs
    cases ht
    obtain ⟨err, c, rfl⟩ := State.agreeButError_iff.mp h
    rfl
  | false =>
    cases hv : e.cmdValid with
    | true =>
      rw [clockEdge_command e _ hr hv] at hs ht
      exact acceptWord_agreeButError h hs ht
    | false =>
      rw [clockEdge_idle e _ hr hv] at hs ht
      cases hs
      cases ht
      exact h

/-- Settles O33: both states have the same edge to take, and no kind of edge reads the record. -/
theorem errorRecordSteersNothing : Obligations.ErrorRecordSteersNothing := by
  intro s t s' t' h hs ht
  have hport : t.port = s.port := (congrArg State.port h).symm
  cases hp : s.port with
  | nil =>
    rw [step_idle s hp] at hs
    rw [step_idle t (hport.trans hp)] at ht
    cases hs
    cases ht
    exact h
  | cons e es =>
    rw [step_edge s e es hp] at hs
    rw [step_edge t e es (hport.trans hp)] at ht
    exact clockEdge_agreeButError (h.withPort es) hs ht

/-! ### The status bits -/

/-- NOP and the configuration commands leave every bit of STATUS (R37, R131). -/
theorem exec_status_of_configuration (s : State) (i : Instr) (hi : i = .nop ∨ isConfiguration i = true) :
    ∃ t, exec i s = .next t ∧
      t.active = s.active ∧ t.rvalid = s.rvalid ∧ t.err = s.err ∧ t.errCause = s.errCause := by
  obtain ⟨t, ht⟩ := exec_next i s
  refine ⟨t, ht, ?_⟩
  cases exec_eq_next_iff.mp ht with
  | start => simp [isConfiguration] at hi
  | update b ha => simp [isConfiguration] at hi
  | final ha => simp [isConfiguration] at hi
  | noDigest hd ha => obtain rfl | ⟨b, rfl⟩ := hd <;> simp [isConfiguration] at hi
  | _ => exact ⟨rfl, rfl, rfl, rfl⟩

/-- Settles O34: R37's table row by row. -/
theorem statusBitsByCommand : Obligations.StatusBitsByCommand := by
  intro s
  refine ⟨exec_status_of_configuration s, ⟨_, rfl, rfl, rfl, rfl, rfl⟩, fun b ha => ?_, fun ha => ?_,
    fun i hi ha => ?_, fun w c hd => ?_⟩
  · exact ⟨_, exec_update_active b s ha, ha, rfl, rfl, rfl⟩
  · exact ⟨_, exec_final_active s ha, rfl, rfl, rfl, rfl⟩
  · exact ⟨_, exec_inactive s hi ha, by simp [causeCode]⟩
  · exact ⟨_, acceptWord_error w s c hd, by simp⟩

/-! ### STATUS and PARAMS on the read port -/

@[simp] theorem State.read_status (s : State) : s.read 0x0#4 = s.statusWord := rfl

@[simp] theorem State.read_params (s : State) : s.read 0x8#4 = s.paramsWord := rfl

/-- STATUS bit by bit: ACTIVE, RVALID, ERR and a zero, then ERRCAUSE with zeros above its four bits (R32). -/
theorem State.statusWord_getLsbD (s : State) (k : Nat) :
    s.statusWord.getLsbD k =
      match k with
      | 0 => s.active
      | 1 => s.rvalid
      | 2 => s.err
      | 3 => false
      | j + 4 => s.errCause.getLsbD j := by
  rw [State.statusWord, BitVec.getLsbD_cast]
  simp only [BitVec.getLsbD_append]
  match k with
  | 0 | 1 | 2 | 3 => simp
  | j + 4 =>
    by_cases hj : j < 4
    · simp [hj]
    · simp [hj, BitVec.getLsbD_of_ge s.errCause j (by omega)]

/-- ERRCAUSE is STATUS's second nibble (R32). -/
theorem State.statusWord_errCause (s : State) : s.statusWord.extractLsb' 4 4 = s.errCause := by
  apply BitVec.eq_of_getLsbD_eq
  intro j hj
  rw [BitVec.getLsbD_extractLsb', Nat.add_comm, State.statusWord_getLsbD]
  simp [hj]

/-- STATUS's high byte is zero, since it begins where ERRCAUSE has ended (R32). -/
theorem State.statusWord_highByte (s : State) : s.statusWord.extractLsb' 8 8 = 0#8 := by
  apply BitVec.eq_of_getLsbD_eq
  intro j hj
  rw [BitVec.getLsbD_extractLsb', show 8 + j = (j + 4) + 4 by omega, State.statusWord_getLsbD]
  simp

/-- Settles O35: the four low bits one by one, then the two fields above them. -/
theorem statusWordBits : Obligations.StatusWordBits := by
  intro s
  rw [State.read_status]
  exact ⟨s.statusWord_getLsbD 0, s.statusWord_getLsbD 1, s.statusWord_getLsbD 2, s.statusWord_getLsbD 3,
    s.statusWord_errCause, s.statusWord_highByte⟩

/-- Settles O37: PARAMS is a function of the build parameter, which no step writes. -/
theorem paramsIsFixed : Obligations.ParamsIsFixed := by
  refine ⟨fun s hp => ?_, fun s hp => ?_, fun s t h => ?_⟩
  · rw [State.read_params, State.paramsWord, hp]
    rfl
  · rw [State.read_params, State.paramsWord, hp]
    rfl
  · have hp := step_pInitReflect h
    exact ⟨hp, by rw [State.read_params, State.read_params, State.paramsWord, hp, State.paramsWord]⟩

end Sys2Proof.Machine
end

section
/-! SUPPORT. The two ports (spec/20_memory.md): no command reads what is still to come on the command port, so presented
words run one a clock; what an edge without a command does; and the map of the read port. -/

namespace Sys2Proof.Machine

variable {s t : State}

/-! ### Commands and what is still to come on the port -/

theorem State.recordError_withPort (s : State) (c : Cause) (es : List Edge) :
    (s.withPort es).recordError c = (s.recordError c).withPort es := by
  cases he : s.err
  · rw [s.recordError_of_noErr c he, (s.withPort es).recordError_of_noErr c he]
    rfl
  · rw [s.recordError_of_err c he, (s.withPort es).recordError_of_err c he]

/-- No command's effect reads the port: the guard decides the same way and the writes are the same (R60). -/
theorem Effect.withPort {i : Instr} (he : Effect s i t) (es : List Edge) :
    Effect (s.withPort es) i (t.withPort es) := by
  cases he with
  | nop => exact .nop
  | setinit v => exact .setinit v
  | setxorout v => exact .setxorout v
  | setflags i o => exact .setflags i o
  | setcheck v => exact .setcheck v
  | setresidue v => exact .setresidue v
  | start => exact .start
  | update b ha => exact .update b ha
  | final ha => exact .final ha
  | noDigest hi ha => exact s.recordError_withPort .noDigest es ▸ .noDigest hi ha

theorem acceptWord_withPort {w : CmdWord} (h : acceptWord w s = .next t) (es : List Edge) :
    acceptWord w (s.withPort es) = .next (t.withPort es) := by
  obtain ⟨i, hd, he⟩ | ⟨c, hd, rfl⟩ := acceptWord_effect h
  · rw [acceptWord_command w _ i hd, exec_eq_next_iff]
    exact he.withPort es
  · rw [acceptWord_error w _ c hd, s.recordError_withPort c es]

/-! ### Presented words -/

/-- A word accepted ahead of other presented words leaves those still to come (R55). -/
theorem acceptWord_present {w : CmdWord} (h : acceptWord w s = .next t) (ws : List CmdWord) :
    acceptWord w (s.present ws) = .next (t.present ws) := by
  have hport : t.port = s.port := (acceptWord_fixed h).2
  rw [State.present, State.present, hport]
  exact acceptWord_withPort h _

/-- One step takes the first presented word and that word only (R240). -/
theorem step_present_cons (w : CmdWord) (ws : List CmdWord) (s : State) :
    step (s.present (w :: ws)) = acceptWord w (s.present ws) :=
  step_edge _ (Edge.ofWord w) (ws.map Edge.ofWord ++ s.port) rfl

/-- A run takes its first step, then the rest from where that step left the machine. -/
theorem core_run_succ {M : Host.Core} {u v : M.State} (k : Nat) (h : M.step u = .next v) :
    M.run (k + 1) u = M.run k v := by
  rw [Host.Core.run, h]

/-- Settles O17, by induction on the presented words: the first step accepts the first word and leaves the others
presented. -/
theorem presentedWordsExecuteInOrder : Obligations.PresentedWordsExecuteInOrder := by
  intro ws
  induction ws with
  | nil => exact fun s => rfl
  | cons w ws ih =>
    intro s
    obtain ⟨t, ht⟩ := acceptWord_next w s
    have hstep : Sys2Proof.core.step (s.present (w :: ws)) = .next (t.present ws) :=
      (step_present_cons w ws s).trans (acceptWord_present ht ws)
    rw [List.length_cons, core_run_succ ws.length hstep, ih t, acceptWords_cons w ws s t ht]

/-! ### Edges: no command, and the read selector -/

/-- Settles O12: an idle edge is taken off the port, and an empty port leaves the state. -/
theorem idleEdgeChangesNothing : Obligations.IdleEdgeChangesNothing := by
  refine ⟨fun s e es hp hr hv => ?_, step_idle⟩
  rw [step_edge s e es hp, clockEdge_idle e _ hr hv]
  rfl

/-- An edge does what `rst`, `cmd_valid` and `cmd_data` say, whatever is being read (R54). -/
theorem clockEdge_rdSel (e : Edge) (k : Nibble) (s : State) : clockEdge { e with rdSel := k } s = clockEdge e s := rfl

/-- Settles O38: both edges leave the same port behind, and neither reads its selector. -/
theorem readsHaveNoEffect : Obligations.ReadsHaveNoEffect := by
  intro s e es k
  rw [step_edge _ e es rfl, step_edge _ { e with rdSel := k } es rfl, clockEdge_rdSel]
  rfl

/-! ### The map of the read port -/

/-- STATUS as the OR of its fields, each at its place (R32): seven bits of the state fix the word. -/
theorem State.statusWord_eq_or (s : State) :
    s.statusWord = (if s.active then 0x0001#16 else 0#16) ||| (if s.rvalid then 0x0002#16 else 0#16) |||
      (if s.err then 0x0004#16 else 0#16) ||| (s.errCause.setWidth 16 <<< 4) := by
  rw [State.statusWord]
  generalize s.active = a, s.rvalid = r, s.err = e, s.errCause = c
  revert a r e c
  decide

/-- FLAGS as the OR of its two bits (R25). -/
theorem State.flagsWord_eq_or (s : State) :
    s.flagsWord = (if s.cfgRefin then 0x0001#16 else 0#16) ||| (if s.cfgRefout then 0x0002#16 else 0#16) := by
  rw [State.flagsWord]
  cases s.cfgRefin <;> cases s.cfgRefout <;> rfl

/-- PARAMS is 1 in the build ALWAYS and 0 in the other (R10, R36). -/
theorem State.paramsWord_eq_ite (s : State) :
    s.paramsWord = if s.pInitReflect = .always then 0x0001#16 else 0x0000#16 := by
  rw [State.paramsWord]
  cases s.pInitReflect <;> rfl

/-- The reserved selectors lie past every arm of the map (R53; log entry 5). -/
theorem State.read_reserved (s : State) (k : Nibble) (hk : 9 ≤ k.toNat) : s.read k = 0x0000#16 := by
  obtain ⟨n, hn⟩ : ∃ n, k.toNat = n + 9 := Nat.exists_eq_add_of_le' hk
  rw [State.read, hn]
  rfl

/-- Settles O36: the three assembled words by their fields, the registers as they stand, the reserved selectors. -/
theorem readMap : Obligations.ReadMap := fun s =>
  ⟨s.statusWord_eq_or, rfl, rfl, s.flagsWord_eq_or, rfl, rfl, rfl, rfl, s.paramsWord_eq_ite, s.read_reserved⟩

end Sys2Proof.Machine
end

section
/-! SUPPORT. The encoding of the commands (spec/30_encoding.md): decode and encode are inverse, what every other word
decodes to, the rows of the opcode table and their sizes, the assembler's words, and the step at a decode error. -/

namespace Sys2Proof

/-! ### Decode after encode -/

theorem extractLsb'_low_byte (b : Byte) : (b.setWidth 16).extractLsb' 0 8 = b := by
  apply BitVec.eq_of_getLsbD_eq
  intro j hj
  simp [hj, show j < 16 by omega]

theorem extractLsb'_high_byte (b : Byte) : (b.setWidth 16).extractLsb' 8 8 = 0#8 := by
  apply BitVec.eq_of_getLsbD_eq
  intro j hj
  simp

/-- A command decodes by its opcode's layout: H takes IMM as it stands, Z finds it zero, F and B read their bits back
from it (R72 to R74). -/
theorem decode_encode (i : Instr) : decode (encode i) = .command i := by
  simp only [decode, opField_encode, rsvField_encode, immField_encode]
  cases i with
  | setflags i o => revert i o; decide
  | update b => simp [Instr.opcode, Instr.imm, decodeB, extractLsb'_low_byte, extractLsb'_high_byte]
  | _ => rfl

theorem encode_injective : Function.Injective encode := by
  intro i j h
  simpa [decode_encode] using congrArg decode h

/-! ### What every word decodes to -/

/-- The must-be-zero bits of IMM under an opcode (R72). -/
def immReserved (op : Nat) : Half := immField (reservedMask op)

/-- A word that is zero under a mask is zero in every field the mask covers whole. -/
theorem extractLsb'_eq_zero_of_and {n start len : Nat} {x m : BitVec n}
    (hm : m.extractLsb' start len = BitVec.allOnes len) (h : x &&& m = 0#n) : x.extractLsb' start len = 0#len := by
  rw [← BitVec.and_allOnes (x := x.extractLsb' start len), ← hm, ← BitVec.extractLsb'_and, h, BitVec.extractLsb'_zero]

/-- RSV is among the reserved bits of every opcode (R71, R72). -/
theorem rsvField_reservedMask (op : Nat) : rsvField (reservedMask op) = BitVec.allOnes 12 := by
  unfold reservedMask
  split <;> decide

theorem opField_and (x y : CmdWord) : opField (x &&& y) = opField x &&& opField y := BitVec.extractLsb'_and

theorem immField_and (x y : CmdWord) : immField (x &&& y) = immField x &&& immField y := BitVec.extractLsb'_and

/-- A word with no reserved bit set has none in either field that can hold one. -/
theorem fields_of_reservedClear {w : CmdWord} (h : reservedClear w = true) :
    rsvField w = 0#12 ∧ immField w &&& immReserved (opField w).toNat = 0#16 := by
  have hw : w &&& reservedMask (opField w).toNat = 0#32 := by
    rw [← shift_eq_opField]
    exact eq_of_beq h
  refine ⟨extractLsb'_eq_zero_of_and (rsvField_reservedMask _) hw, ?_⟩
  rw [immReserved, ← immField_and, hw]
  rfl

/-- What decoding may make of an IMM field under an opcode: RESERVED_BITS for a must-be-zero bit that is 1, or else
the one command with that opcode and that IMM. -/
def ReadsImm (op : Nat) (imm : Half) (d : Decoded) : Prop :=
  (imm &&& immReserved op ≠ 0#16 ∧ d = .error .reservedBits) ∨
  ∃ i : Instr, i.opcode.toNat = op ∧ i.imm = imm ∧ d = .command i

theorem decodeZ_readsImm (i : Instr) (imm : Half) (hi : i.imm = 0#16)
    (hm : immReserved i.opcode.toNat = BitVec.allOnes 16) : ReadsImm i.opcode.toNat imm (decodeZ i imm) := by
  unfold decodeZ
  split
  case isTrue h => exact .inl ⟨by rwa [hm, BitVec.and_allOnes], rfl⟩
  case isFalse h => exact .inr ⟨i, rfl, hi.trans (not_not.mp h).symm, rfl⟩

/-- A field of zeros, bit by bit. -/
theorem getLsbD_of_extractLsb'_eq_zero {x : Half} {start len : Nat} (h : x.extractLsb' start len = 0#len) {j : Nat}
    (hj : start ≤ j ∧ j < start + len) : x.getLsbD j = false := by
  have hb := congrArg (·.getLsbD (j - start)) h
  simpa [show j - start < len by omega, show start + (j - start) = j by omega] using hb

theorem imm_setflags {imm : Half} (h : imm.extractLsb' 2 14 = 0#14) :
    (Instr.setflags (imm.getLsbD 0) (imm.getLsbD 1)).imm = imm := by
  apply BitVec.eq_of_getLsbD_eq
  intro j hj
  match j with
  | 0 => simp [Instr.imm]
  | 1 => simp [Instr.imm]
  | j + 2 => simp [Instr.imm, getLsbD_of_extractLsb'_eq_zero h (j := j + 2) (by omega)]

theorem imm_update {imm : Half} (h : imm.extractLsb' 8 8 = 0#8) :
    (Instr.update (imm.extractLsb' 0 8)).imm = imm := by
  apply BitVec.eq_of_getLsbD_eq
  intro j hj
  by_cases hb : j < 8
  · simp [Instr.imm, hb, hj]
  · simp [Instr.imm, hb, getLsbD_of_extractLsb'_eq_zero h (j := j) (by omega)]

theorem decodeF_readsImm (imm : Half) : ReadsImm 3 imm (decodeF imm) := by
  unfold decodeF
  split
  case isTrue h => exact .inl ⟨fun h0 => h (extractLsb'_eq_zero_of_and rfl h0), rfl⟩
  case isFalse h => exact .inr ⟨_, rfl, imm_setflags (not_not.mp h), rfl⟩

theorem decodeB_readsImm (imm : Half) : ReadsImm 7 imm (decodeB imm) := by
  unfold decodeB
  split
  case isTrue h => exact .inl ⟨fun h0 => h (extractLsb'_eq_zero_of_and rfl h0), rfl⟩
  case isFalse h => exact .inr ⟨_, rfl, imm_update (not_not.mp h), rfl⟩

theorem decode_readsImm {w : CmdWord} (ho : (opField w).toNat < 9) (hr : rsvField w = 0#12) :
    ReadsImm (opField w).toNat (immField w) (decode w) := by
  rw [decode, if_neg (by omega), if_neg (not_not.mpr hr)]
  generalize immField w = imm
  generalize (opField w).toNat = op at ho
  match op with
  | 0 => exact decodeZ_readsImm .nop imm rfl rfl
  | 1 => exact .inr ⟨.setinit imm, rfl, rfl, rfl⟩
  | 2 => exact .inr ⟨.setxorout imm, rfl, rfl, rfl⟩
  | 3 => exact decodeF_readsImm imm
  | 4 => exact .inr ⟨.setcheck imm, rfl, rfl, rfl⟩
  | 5 => exact .inr ⟨.setresidue imm, rfl, rfl, rfl⟩
  | 6 => exact decodeZ_readsImm .start imm rfl rfl
  | 7 => exact decodeB_readsImm imm
  | 8 => exact decodeZ_readsImm .final imm rfl rfl
  | _ + 9 => omega

/-- Everything a word can decode to. -/
theorem decode_cases (w : CmdWord) :
    (9 ≤ (opField w).toNat ∧ decode w = .error .illegalOp) ∨
    ((opField w).toNat < 9 ∧ reservedClear w = false ∧ decode w = .error .reservedBits) ∨
    ∃ i, encode i = w ∧ decode w = .command i := by
  obtain ho | ho := Nat.lt_or_ge (opField w).toNat 9
  · right
    by_cases hr : rsvField w = 0#12
    · obtain ⟨hi, hd⟩ | ⟨i, hop, himm, hd⟩ := decode_readsImm ho hr
      · exact .inl ⟨ho, Bool.eq_false_iff.mpr fun h => hi (fields_of_reservedClear h).2, hd⟩
      · exact .inr ⟨i, encode_of_fields w i (BitVec.eq_of_toNat_eq hop.symm) hr himm.symm, hd⟩
    · exact .inl ⟨ho, Bool.eq_false_iff.mpr fun h => hr (fields_of_reservedClear h).1, decode_of_rsv w ho hr⟩
  · exact .inl ⟨ho, decode_of_reservedOpcode w ho⟩

/-- Settles O1: `decode_encode`. -/
theorem decodeOfEncodeIsTheCommand : Obligations.DecodeOfEncodeIsTheCommand := decode_encode

theorem decode_eq_command_iff {w : CmdWord} {i : Instr} : decode w = .command i ↔ encode i = w := by
  constructor
  · intro h
    obtain ⟨-, hd⟩ | ⟨-, -, hd⟩ | ⟨j, hj, hd⟩ := decode_cases w
    · simp [hd] at h
    · simp [hd] at h
    · cases hd.symm.trans h
      exact hj
  · rintro rfl
    exact decode_encode i

/-- Settles O2: a word that is no command's encoding decodes to an error. -/
theorem encodeOfDecodeIsTheWord : Obligations.EncodeOfDecodeIsTheWord := fun _ _ h => decode_eq_command_iff.mp h

/-- Settles O5: a command's opcode and RESERVED_BITS' are defined ones. -/
theorem reservedOpcodesAreIllegal : Obligations.ReservedOpcodesAreIllegal := by
  intro w
  rw [shift_eq_opField]
  refine ⟨fun h => ?_, decode_of_reservedOpcode w⟩
  obtain ⟨ho, -⟩ | ⟨-, -, hd⟩ | ⟨i, -, hd⟩ := decode_cases w
  · exact ho
  · simp [hd] at h
  · simp [hd] at h

/-- Every command's word is well formed and in its own row: the lemmas of `EncodedRow`, one per command. -/
theorem encodedRow (i : Instr) : Laws.EncodedRow.Statement i := by
  cases i with
  | nop => exact Laws.EncodedRow.nop
  | setinit v => exact Laws.EncodedRow.setinit v
  | setxorout v => exact Laws.EncodedRow.setxorout v
  | setflags i o => exact Laws.EncodedRow.setflags i o
  | setcheck v => exact Laws.EncodedRow.setcheck v
  | setresidue v => exact Laws.EncodedRow.setresidue v
  | start => exact Laws.EncodedRow.start
  | update b => exact Laws.EncodedRow.update b
  | final => exact Laws.EncodedRow.final

theorem wellFormedWord_eq_true_iff {w : CmdWord} :
    wellFormedWord w = true ↔ (opField w).toNat < 9 ∧ reservedClear w = true := by
  rw [wellFormedWord, opcodeDefined, shift_eq_opField, Bool.and_eq_true, decide_eq_true_eq]

/-- The well-formed words are the commands' (R76). -/
theorem wellFormedWord_iff_exists {w : CmdWord} : wellFormedWord w = true ↔ ∃ i, encode i = w := by
  constructor
  · rw [wellFormedWord_eq_true_iff]
    rintro ⟨ho, hc⟩
    obtain ⟨ho', -⟩ | ⟨-, hc', -⟩ | ⟨i, hi, -⟩ := decode_cases w
    · omega
    · simp [hc] at hc'
    · exact ⟨i, hi⟩
  · rintro ⟨i, rfl⟩
    exact (encodedRow i).1

/-- Settles O6: with a defined opcode a word is a command's, with its reserved bits clear, or it is refused for one. -/
theorem reservedBitsAreRefused : Obligations.ReservedBitsAreRefused := by
  refine ⟨fun w ho => ?_, by decide⟩
  rw [opcodeDefined, decide_eq_true_eq, shift_eq_opField] at ho
  obtain ⟨ho', -⟩ | ⟨-, hc, hd⟩ | ⟨i, hi, hd⟩ := decode_cases w
  · omega
  · exact iff_of_true hd hc
  · have hc := (wellFormedWord_eq_true_iff.mp (wellFormedWord_iff_exists.mpr ⟨i, hi⟩)).2
    simp [hd, hc]

/-- Settles O7: the encodings by computation, the decodings by `decode_encode`. -/
theorem encodingExamples : Obligations.EncodingExamples := by
  intro p hp
  suffices henc : encode p.1 = p.2 from ⟨henc, decode_eq_command_iff.mpr henc⟩
  revert p
  decide

/-! ### The rows of the opcode table -/

/-- A row is its opcode and its opcode's reserved bits: the pattern is the opcode alone, the mask those bits and OP. -/
def OpcodeRow.OfOpcode (r : OpcodeRow) : Prop :=
  (opField r.pattern).toNat < 9 ∧ opField r.mask = BitVec.allOnes 4 ∧
    r.mask &&& reservedMask (opField r.pattern).toNat = reservedMask (opField r.pattern).toNat ∧
    r.pattern &&& reservedMask (opField r.pattern).toNat = 0#32

theorem ofOpcode_of_mem : ∀ r ∈ opcodeTable, r.OfOpcode := by
  unfold OpcodeRow.OfOpcode
  decide

theorem row_eq_of_opField : ∀ r ∈ opcodeTable, ∀ q ∈ opcodeTable, opField r.pattern = opField q.pattern → r = q := by
  decide

theorem row_eq_of_mnemonic : ∀ r ∈ opcodeTable, ∀ q ∈ opcodeTable, r.mnemonic = q.mnemonic → r = q := by
  decide

theorem OpcodeRow.opField_of_accepts {r : OpcodeRow} (hr : r ∈ opcodeTable) {w : CmdWord}
    (h : r.accepts w = true) : opField w = opField r.pattern := by
  obtain ⟨-, hm, -, -⟩ := ofOpcode_of_mem r hr
  have hw : w &&& r.mask = r.pattern := eq_of_beq h
  rw [← hw, opField_and, hm, BitVec.and_allOnes]

theorem OpcodeRow.wellFormedWord_of_accepts {r : OpcodeRow} (hr : r ∈ opcodeTable) {w : CmdWord}
    (h : r.accepts w = true) : wellFormedWord w = true := by
  obtain ⟨ho, -, hm, hp⟩ := ofOpcode_of_mem r hr
  have hop := OpcodeRow.opField_of_accepts hr h
  have hw : w &&& r.mask = r.pattern := eq_of_beq h
  refine wellFormedWord_eq_true_iff.mpr ⟨hop ▸ ho, ?_⟩
  rw [reservedClear, shift_eq_opField, hop, beq_iff_eq, ← hm, ← BitVec.and_assoc, hw, hp]

/-- No two rows share a word: each row's words have its opcode. -/
theorem row_unique {r q : OpcodeRow} (hr : r ∈ opcodeTable) (hq : q ∈ opcodeTable) {w : CmdWord}
    (hrw : r.accepts w = true) (hqw : q.accepts w = true) : r = q :=
  row_eq_of_opField r hr q hq ((OpcodeRow.opField_of_accepts hr hrw).symm.trans (OpcodeRow.opField_of_accepts hq hqw))

/-- A row's words are those of the commands with its mnemonic (R80). -/
theorem OpcodeRow.accepts_iff {r : OpcodeRow} (hr : r ∈ opcodeTable) {w : CmdWord} :
    r.accepts w = true ↔ ∃ i, i.mnemonic = r.mnemonic ∧ encode i = w := by
  constructor
  · intro h
    obtain ⟨i, rfl⟩ := wellFormedWord_iff_exists.mp (OpcodeRow.wellFormedWord_of_accepts hr h)
    obtain ⟨-, q, hq, hn, hqw⟩ := encodedRow i
    exact ⟨i, row_unique hq hr hqw h ▸ hn.symm, rfl⟩
  · rintro ⟨i, hi, rfl⟩
    obtain ⟨-, q, hq, hn, hqw⟩ := encodedRow i
    exact row_eq_of_mnemonic q hq r hr (hn.trans hi) ▸ hqw

/-- Settles O3: a command's word lies in its own row and in no other; an error's word is not well formed, so it lies
in none. -/
theorem everyWordIsOfOneRowOrAnError : Obligations.EveryWordIsOfOneRowOrAnError := by
  intro w
  cases hd : decode w with
  | command i =>
    obtain ⟨-, r, hr, hn, hrw⟩ := encodedRow i
    rw [decode_eq_command_iff.mp hd] at hrw
    exact .inl ⟨r, hr, hrw, fun q hq hqw => row_unique hq hr hqw hrw, i, rfl, hn.symm⟩
  | error c =>
    refine .inr ⟨fun r hr => Bool.eq_false_iff.mpr fun hrw => ?_, c, rfl⟩
    obtain ⟨i, -, hi⟩ := (OpcodeRow.accepts_iff hr).mp hrw
    rw [← hi, decode_encode] at hd
    cases hd

/-! ### How many words -/

theorem card_bitVec (n : Nat) : Fintype.card (BitVec n) = 2 ^ n :=
  (Fintype.card_congr BitVec.equivFin.toEquiv).trans (Fintype.card_fin _)

/-- A row has as many words as its operands have values, since `encode` is injective. The defaults check a row of the
table, given the command `f` its operands make. -/
theorem card_accepts {α : Type} {r : OpcodeRow} {n : Nat} (f : α → Instr) (hn : Nat.card α = n)
    (hr : r ∈ opcodeTable := by decide)
    (hf : Function.Injective f := by intro a b h; simp_all [Prod.ext_iff])
    (hrow : ∀ i, i.mnemonic = r.mnemonic ↔ ∃ a, f a = i := by intro i; cases i <;> simp [Instr.mnemonic]) :
    Nat.card { w : CmdWord // r.accepts w = true } = n := by
  have hset : { w : CmdWord | r.accepts w = true } = Set.range (encode ∘ f) := by
    ext w
    simp [OpcodeRow.accepts_iff hr, hrow]
  calc Nat.card { w : CmdWord // r.accepts w = true }
      = Nat.card (Set.range (encode ∘ f)) := congrArg (fun s : Set CmdWord => Nat.card s) hset
    _ = Nat.card α := Nat.card_range_of_injective (encode_injective.comp hf)
    _ = n := hn

/-- The commands as the values of their operands, a summand for each row of the table. -/
def Instr.operandsEquiv :
    (Unit ⊕ Half ⊕ Half ⊕ (_ : Bool) × Bool ⊕ Half ⊕ Half ⊕ Unit ⊕ Byte ⊕ Unit) ≃ Instr := proxy_equiv% Instr

theorem card_instr : Nat.card Instr = 262407 := by
  rw [← Nat.card_congr Instr.operandsEquiv]
  simp [card_bitVec]

theorem card_commands : Nat.card { w : CmdWord // ∃ i, decode w = .command i } = 262407 := by
  simp only [decode_eq_command_iff]
  exact (Nat.card_range_of_injective encode_injective).trans card_instr

theorem decode_error_iff {w : CmdWord} : (∃ c, decode w = .error c) ↔ ¬ ∃ i, decode w = .command i := by
  cases h : decode w <;> simp

theorem card_errors : Nat.card { w : CmdWord // ∃ c, decode w = .error c } = 4294704889 := by
  classical
  have hsum := Nat.card_congr (Equiv.sumCompl fun w : CmdWord => ∃ i, decode w = .command i)
  rw [Nat.card_sum, card_commands, Nat.card_eq_fintype_card (α := CmdWord), card_bitVec] at hsum
  simp only [decode_error_iff]
  omega

/-- Settles O4: a row's words by its operands, the errors as the words left over. -/
theorem acceptedWordCounts : Obligations.AcceptedWordCounts := by
  refine ⟨?_, card_commands, card_errors⟩
  have hunit : Nat.card Unit = 1 := Nat.card_unique
  have hhalf : Nat.card Half = 65536 := by simp [card_bitVec]
  have hbyte : Nat.card Byte = 256 := by simp [card_bitVec]
  have hflags : Nat.card (Bool × Bool) = 4 := by simp
  simp only [opcodeTable, List.zip_cons_cons, List.zip_nil_left, List.forall_mem_cons]
  exact ⟨card_accepts (fun _ => .nop) hunit, card_accepts .setinit hhalf, card_accepts .setxorout hhalf,
    card_accepts (fun p => .setflags p.1 p.2) hflags, card_accepts .setcheck hhalf, card_accepts .setresidue hhalf,
    card_accepts (fun _ => .start) hunit, card_accepts .update hbyte, card_accepts (fun _ => .final) hunit, nofun⟩

end Sys2Proof

namespace Sys2Proof.Machine

/-! ### The assembler -/

/-- The line's operands fit, and it names the command. -/
def Names (l : AsmLine) (i : Instr) : Prop := l.fits = true ∧ asmCommand l = some i

/-- A command's word from its opcode in place and its immediate as a number (R71). -/
theorem encode_eq_or {i : Instr} {p : CmdWord} {v : Nat} (hp : i.opcode.setWidth 32 <<< 28 = p) (hv : v < 2 ^ 16)
    (hi : i.imm = BitVec.ofNat 16 v) : encode i = p ||| BitVec.ofNat 32 v := by
  rw [encode, hp, hi, BitVec.setWidth_ofNat_of_le_of_lt (by omega) hv]

/-- R81's table agrees with `encode` wherever the operands fit. -/
theorem Names.asmWord_eq {l : AsmLine} {i : Instr} (h : Names l i) : asmWord l = encode i := by
  obtain ⟨hl, hi⟩ := h
  cases l with
  | word w => cases hi
  | nop | start | final => cases hi; rfl
  | setinit v | setxorout v | setcheck v | setresidue v =>
    cases hi
    have hv : v < 2 ^ 16 := by simpa [AsmLine.fits] using hl
    exact (encode_eq_or (by simp [Instr.opcode]) hv rfl).symm
  | setflags r o =>
    cases hi
    obtain ⟨hr, ho⟩ : r < 2 ∧ o < 2 := by simpa [AsmLine.fits] using hl
    interval_cases r <;> interval_cases o <;> rfl
  | update b =>
    cases hi
    have hb : b < 2 ^ 8 := by simpa [AsmLine.fits] using hl
    have himm : (Instr.update (BitVec.ofNat 8 b)).imm = BitVec.ofNat 16 b :=
      BitVec.setWidth_ofNat_of_le_of_lt (by omega) hb
    exact (encode_eq_or (by simp [Instr.opcode]) (by omega) himm).symm

theorem assemble_of_fits {l : AsmLine} (hl : l.fits = true) : assemble l = some (asmWord l) := if_pos hl

theorem assemble_of_not_fits {l : AsmLine} (hl : l.fits = false) : assemble l = none := by
  simp [assemble, hl]

theorem Names.assemble_eq {l : AsmLine} {i : Instr} (h : Names l i) : assemble l = some (encode i) :=
  h.asmWord_eq ▸ assemble_of_fits h.1

/-- Settles O8: R81's table where a command is named, and the operand check elsewhere. -/
theorem assemblerEmitsTheEncodings : Obligations.AssemblerEmitsTheEncodings :=
  ⟨fun _ _ hl hi => Names.assemble_eq ⟨hl, hi⟩, fun _ hw => assemble_of_fits (decide_eq_true hw),
    fun _ => assemble_of_not_fits⟩

/-! ### The pseudo-instructions -/

/-- Lines that name commands, one for one, assemble to the commands' words in order. -/
theorem mapM_assemble {ls : List AsmLine} {cs : List Instr} (h : List.Forall₂ Names ls cs) :
    ls.mapM assemble = some (cs.map encode) := by
  induction h with
  | nil => rfl
  | cons hl _ ih =>
    rw [List.mapM_cons, hl.assemble_eq, ih]
    rfl

theorem names_setinit (v : Half) : Names (.setinit v.toNat) (.setinit v) :=
  ⟨decide_eq_true v.isLt, by simp [asmCommand]⟩

theorem names_setxorout (v : Half) : Names (.setxorout v.toNat) (.setxorout v) :=
  ⟨decide_eq_true v.isLt, by simp [asmCommand]⟩

theorem names_setcheck (v : Half) : Names (.setcheck v.toNat) (.setcheck v) :=
  ⟨decide_eq_true v.isLt, by simp [asmCommand]⟩

theorem names_setresidue (v : Half) : Names (.setresidue v.toNat) (.setresidue v) :=
  ⟨decide_eq_true v.isLt, by simp [asmCommand]⟩

theorem names_setflags (i o : Bool) : Names (.setflags i.toNat o.toNat) (.setflags i o) := by
  cases i <;> cases o <;> exact ⟨rfl, rfl⟩

theorem names_update (b : Byte) : Names (.update b.toNat) (.update b) :=
  ⟨decide_eq_true b.isLt, by simp [asmCommand]⟩

/-- Bytes written as numbers name their UPDATEs (R82). -/
theorem names_updates (m : List Byte) :
    List.Forall₂ Names ((m.map (·.toNat)).map .update) (m.map .update) := by
  simp [List.forall₂_map_left_iff, List.forall₂_map_right_iff, List.forall₂_same, names_update]

/-- The commands of the source's `checksum` (R18). -/
def checksumCommands (m : List Byte) : List Instr := .start :: (m.map .update ++ [.final])

theorem map_encode_checksumCommands (m : List Byte) : (checksumCommands m).map encode = checksumWords m := by
  have hupdate (b : Byte) : encode (.update b) = 0x70000000#32 ||| b.setWidth 32 := by
    rw [← (names_update b).asmWord_eq, asmWord, BitVec.ofNat_toNat]
  have hstart : encode .start = 0x60000000#32 := rfl
  have hfinal : encode .final = 0x80000000#32 := rfl
  simp [checksumCommands, checksumWords, hupdate, hstart, hfinal]

/-- Settles O9: the lines of each expansion name its commands one for one. -/
theorem pseudoInstructionsExpand : Obligations.PseudoInstructionsExpand := by
  refine ⟨fun m => ?_, fun m => ?_, fun a => ?_⟩
  · rw [← map_encode_checksumCommands]
    exact mapM_assemble (.cons ⟨rfl, rfl⟩ (List.rel_append (names_updates m) (.cons ⟨rfl, rfl⟩ .nil)))
  · exact (mapM_assemble (names_updates m)).trans (congrArg some List.map_map)
  · exact mapM_assemble (.cons (names_setinit _) (.cons (names_setflags _ _) (.cons (names_setxorout _)
      (.cons (names_setcheck _) (.cons (names_setresidue _) .nil)))))

/-! ### The step at a decode error -/

/-- What recording an error does, whole (R35). -/
theorem State.recordError_eq (s : State) (c : Cause) :
    s.recordError c = { s with err := true, errCause := if s.err then s.errCause else causeCode c } := by
  unfold State.recordError
  split
  case isTrue h => simp only [← h]
  case isFalse h => rfl

/-- Settles O11: the edge is taken off the port, and the accepted word records its cause. -/
theorem stepRecordsADecodeError : Obligations.StepRecordsADecodeError := by
  intro s e es c hp hr hv hd
  rw [step_edge s e es hp, clockEdge_command e _ hr hv, acceptWord_error _ _ c hd, State.recordError_eq]
  cases c <;> rfl

end Sys2Proof.Machine
end

section
/-! SUPPORT. The datapath (spec/40_datapath.md): the reflector, linearity of the primitive and of its bit-serial
reference over XOR, their agreement, and the stages as bijections of the register. -/

namespace Sys2Proof.Machine

/-! ### The reflector -/

theorem getLsbD_reflect8 (b : Byte) {i : Nat} (hi : i < 8) : (reflect8 b).getLsbD i = b.getLsbD (7 - i) := by
  rw [reflect8, BitVec.getLsbD_reverse, BitVec.getMsbD_eq_getLsbD, decide_eq_true hi, Bool.true_and]

theorem getLsbD_reflect16 (w : Half) {i : Nat} (hi : i < 16) : (reflect16 w).getLsbD i = w.getLsbD (15 - i) := by
  rw [reflect16, BitVec.getLsbD_reverse, BitVec.getMsbD_eq_getLsbD, decide_eq_true hi, Bool.true_and]

/-- Settles O39: one bit of each reflection, and the corner cases by computation. -/
theorem reflectorReversesBits : Obligations.ReflectorReversesBits :=
  ⟨fun b _ => getLsbD_reflect8 b, fun w _ => getLsbD_reflect16 w, by decide⟩

theorem reflect8_involutive : Function.Involutive reflect8 := fun _ => BitVec.reverse_reverse_eq

theorem reflect16_involutive : Function.Involutive reflect16 := fun _ => BitVec.reverse_reverse_eq

@[simp] theorem reflect16_append (hi lo : Byte) : reflect16 (hi ++ lo) = reflect8 lo ++ reflect8 hi :=
  BitVec.reverse_append

theorem reflect16_xor (a b : Half) : reflect16 (a ^^^ b) = reflect16 a ^^^ reflect16 b := by
  apply BitVec.eq_of_getLsbD_eq
  intro i hi
  simp [getLsbD_reflect16 _ hi]

/-- A halfword is its two bytes (R101). -/
theorem append_bytes (w : Half) : w.extractLsb' 8 8 ++ w.extractLsb' 0 8 = w :=
  BitVec.extractLsb'_append_extractLsb' (w := 8) (len := 8)

theorem append_byte_inj {a b c d : Byte} (h : a ++ b = c ++ d) : a = c ∧ b = d := by
  have hhi := congrArg (BitVec.extractLsb' 8 8) h
  have hlo := congrArg (BitVec.extractLsb' 0 8) h
  exact ⟨by rwa [BitVec.extractLsb'_append_eq_left, BitVec.extractLsb'_append_eq_left] at hhi,
    by rwa [BitVec.extractLsb'_append_eq_right, BitVec.extractLsb'_append_eq_right] at hlo⟩

/-- A halfword is its own reflection when its high byte is its low byte's reflection. -/
theorem reflect16_eq_self_iff {w : Half} : reflect16 w = w ↔ ∃ b, reflect8 b ++ b = w := by
  constructor
  · intro h
    rw [← append_bytes w, reflect16_append] at h
    obtain ⟨hhi, -⟩ := append_byte_inj h
    exact ⟨w.extractLsb' 0 8, hhi ▸ append_bytes w⟩
  · rintro ⟨b, rfl⟩
    rw [reflect16_append, reflect8_involutive]

/-- There are as many such halfwords as low bytes. -/
theorem card_reflect16_fixed : Nat.card { w : Half // reflect16 w = w } = 256 := by
  have hinj : Function.Injective fun b : Byte => reflect8 b ++ b := fun _ _ h => (append_byte_inj h).2
  simp only [reflect16_eq_self_iff]
  exact (Nat.card_range_of_injective hinj).trans (by simp [card_bitVec])

/-- Settles O40: the reflection of a halfword is that of its bytes, which also counts its fixed points. -/
theorem reflectorLaws : Obligations.ReflectorLaws := by
  refine ⟨reflect8_involutive, reflect16_involutive, fun w => ?_, reflect16_xor, card_reflect16_fixed, by decide⟩
  rw [← BitVec.setWidth_append_eq_shiftLeft_setWidth_or, ← reflect16_append, append_bytes, BitVec.setWidth_eq]

/-! ### Linearity over XOR -/

/-- A property that XOR keeps holds of every value when it holds of 0 and of the powers of two: the induction adds the
bits of `x` below `k` one by one. -/
theorem xor_induction {n : Nat} {P : BitVec n → Prop} (hzero : P 0#n) (hxor : ∀ a b, P a → P b → P (a ^^^ b))
    (hbit : ∀ i < n, P (BitVec.twoPow n i)) (x : BitVec n) : P x := by
  suffices h : ∀ k ≤ n, ∀ x : BitVec n, (∀ i, k ≤ i → x.getLsbD i = false) → P x from
    h n le_rfl x fun i => BitVec.getLsbD_of_ge x i
  intro k
  induction k with
  | zero =>
    intro _ x hx
    have hx0 : x = 0#n := BitVec.eq_of_getLsbD_eq fun i _ => by simp [hx i]
    exact hx0 ▸ hzero
  | succ k ih =>
    intro hk x hx
    have hkth : P (x &&& BitVec.twoPow n k) := by
      rw [BitVec.and_twoPow]
      split
      · exact hbit k hk
      · exact hzero
    have hbelow : P (x ^^^ (x &&& BitVec.twoPow n k)) := ih (by omega) _ fun i hi => by
      obtain rfl | hlt := hi.eq_or_lt
      · simp [BitVec.getLsbD_twoPow]; omega
      · simp [hx i hlt]
    simpa [BitVec.xor_assoc] using hxor _ _ hbelow hkth

/-- A byte update that is linear in the register and the byte together (R106). -/
def XorLinear (f : Half → Byte → Half) : Prop :=
  ∀ a b x y, f (a ^^^ b) (x ^^^ y) = f a x ^^^ f b y

theorem XorLinear.map_zero {f : Half → Byte → Half} (hf : XorLinear f) : f 0#16 0#8 = 0#16 := by
  simpa using hf 0#16 0#16 0#8 0#8

/-- Two linear byte updates are equal when they agree on each bit of the register and of the byte. -/
theorem XorLinear.eq_of_forall_bit {f g : Half → Byte → Half} (hf : XorLinear f) (hg : XorLinear g)
    (hreg : ∀ i < 16, f (BitVec.twoPow 16 i) 0#8 = g (BitVec.twoPow 16 i) 0#8)
    (hbyte : ∀ i < 8, f 0#16 (BitVec.twoPow 8 i) = g 0#16 (BitVec.twoPow 8 i)) (r : Half) (d : Byte) :
    f r d = g r d := by
  have hxor {a b x y} (ha : f a x = g a x) (hb : f b y = g b y) : f (a ^^^ b) (x ^^^ y) = g (a ^^^ b) (x ^^^ y) := by
    rw [hf, hg, ha, hb]
  have hzero : f 0#16 0#8 = g 0#16 0#8 := hf.map_zero.trans hg.map_zero.symm
  have hr : f r 0#8 = g r 0#8 :=
    xor_induction (P := fun r => f r 0#8 = g r 0#8) hzero (fun _ _ => hxor) hreg r
  have hd : f 0#16 d = g 0#16 d :=
    xor_induction (P := fun d => f 0#16 d = g 0#16 d) hzero (fun _ _ => hxor) hbyte d
  simpa using hxor hr hd

theorem xor_xor_xor_comm {n : Nat} (a b c d : BitVec n) : a ^^^ b ^^^ (c ^^^ d) = a ^^^ c ^^^ (b ^^^ d) := by ac_rfl

/-- The closed form is linear at each of its steps: `c` and `c'` are the rule's `c1`, `e` and `e'` its `c2` (R103). -/
theorem prim_xorLinear : XorLinear prim := by
  intro a b x y
  simp only [prim_eq_xor]
  rw [BitVec.extractLsb'_xor, xor_xor_xor_comm x y]
  generalize x ^^^ a.extractLsb' 0 8 = c, y ^^^ b.extractLsb' 0 8 = c'
  rw [BitVec.shiftLeft_xor_distrib, xor_xor_xor_comm c c']
  generalize c ^^^ c <<< 4 = e, c' ^^^ c' <<< 4 = e'
  simp only [BitVec.setWidth_xor, BitVec.shiftLeft_xor_distrib, BitVec.ushiftRight_xor_distrib]
  ac_rfl

/-- What a step of the bit-serial register XORs in after the shift (R105). -/
def feedback (t : Bool) : Half := if t then Config.polynomialLsb else 0#16

theorem bitstep_eq (r : Half) (p : Bool) : bitstep r p = (r >>> 1) ^^^ feedback (r.getLsbD 0 ^^ p) := by
  rw [bitstep, feedback]
  split
  · rfl
  · exact BitVec.xor_zero.symm

theorem feedback_xor : ∀ s t, feedback (s ^^ t) = feedback s ^^^ feedback t := by decide

theorem bitstep_xor (a b : Half) (p q : Bool) : bitstep (a ^^^ b) (p ^^ q) = bitstep a p ^^^ bitstep b q := by
  simp only [bitstep_eq, BitVec.getLsbD_xor, BitVec.ushiftRight_xor_distrib, feedback_xor]
  ac_rfl

theorem bitserial8_xorLinear : XorLinear bitserial8 := by
  intro a b x y
  unfold bitserial8
  generalize List.range 8 = l
  induction l generalizing a b with
  | nil => rfl
  | cons i l ih => rw [List.foldl_cons, BitVec.getLsbD_xor, bitstep_xor, ih]; rfl

/-! ### The primitive and its reference -/

/-- The closed form is the bit-serial register: both are linear, and they agree on the 24 input bits (R104). -/
theorem prim_eq_bitserial8 : ∀ r d, prim r d = bitserial8 r d :=
  prim_xorLinear.eq_of_forall_bit bitserial8_xorLinear (by decide) (by decide)

/-- The byte enters by XOR into the low byte only: with that byte gone, what is left is the high byte passed down. -/
theorem prim_eq_shift_xor (r : Half) (d : Byte) :
    prim r d = (r >>> 8) ^^^ prim 0#16 (d ^^^ r.extractLsb' 0 8) := by
  simp only [prim_eq_xor, BitVec.extractLsb'_zero, BitVec.zero_ushiftRight, BitVec.xor_zero]
  ac_rfl

theorem setWidth_byte_shift (d : Byte) : d.setWidth 16 >>> 8 = 0#16 := by
  apply BitVec.eq_of_getLsbD_eq
  simp

theorem setWidth_byte_low (d : Byte) : (d.setWidth 16).extractLsb' 0 8 = d := by
  apply BitVec.eq_of_getLsbD_eq
  intro i hi
  simp [hi]
  omega

theorem prim_eq_prim_zero (r : Half) (d : Byte) : prim r d = prim (r ^^^ d.setWidth 16) 0x00#8 := by
  rw [prim_eq_shift_xor, prim_eq_shift_xor (r ^^^ _), BitVec.ushiftRight_xor_distrib, setWidth_byte_shift,
    BitVec.extractLsb'_xor, setWidth_byte_low, BitVec.xor_zero, BitVec.zero_xor, BitVec.xor_comm d]

/-- XORing the byte in first is feeding a zero byte to the bit-serial register (R105). -/
theorem xorThenShift8_eq_bitserial8 (r : Half) (d : Byte) :
    xorThenShift8 r d = bitserial8 (r ^^^ d.setWidth 16) 0#8 := by
  simp [xorThenShift8, bitserial8]

/-- Settles O41: `prim_eq_bitserial8`, and the byte's XOR into the low byte. -/
theorem primitiveIsBitSerial : Obligations.PrimitiveIsBitSerial := by
  refine ⟨prim_eq_bitserial8, fun r d => ?_, by decide, rfl⟩
  rw [xorThenShift8_eq_bitserial8, ← prim_eq_bitserial8, ← prim_eq_prim_zero, prim_eq_bitserial8]

/-- A step's top bit is the bit it tested: the shift leaves it 0, and the polynomial has it set. -/
theorem getLsbD_bitstep_top (r : Half) (p : Bool) : (bitstep r p).getLsbD 15 = (r.getLsbD 0 ^^ p) := by
  have hfeedback : ∀ t, (feedback t).getLsbD 15 = t := by decide
  rw [bitstep_eq, BitVec.getLsbD_xor, hfeedback]
  simp

/-- A step can be undone: its top bit gives bit 0 of the register, and so what the step XORed in. -/
theorem bitstep_injective (p : Bool) : Function.Injective (bitstep · p) := by
  intro a b (h : bitstep a p = bitstep b p)
  have hlow : a.getLsbD 0 = b.getLsbD 0 := by
    have htop := congrArg (BitVec.getLsbD · 15) h
    simpa only [getLsbD_bitstep_top, Bool.xor_left_inj] using htop
  have hhigh : a >>> 1 = b >>> 1 := by
    rwa [bitstep_eq, bitstep_eq, hlow, BitVec.xor_left_inj] at h
  apply BitVec.eq_of_getLsbD_eq
  intro i hi
  cases i with
  | zero => exact hlow
  | succ j => simpa [Nat.add_comm 1] using congrArg (BitVec.getLsbD · j) hhigh

theorem foldl_bijective {α β : Type} {f : β → α → β} (hf : ∀ a, Function.Bijective (f · a)) :
    ∀ l : List α, Function.Bijective fun b => l.foldl f b
  | [] => Function.bijective_id
  | a :: l => (foldl_bijective hf l).comp (hf a)

theorem prim_bijective (d : Byte) : Function.Bijective (prim · d) := by
  simp only [prim_eq_bitserial8]
  exact foldl_bijective (fun i => Finite.injective_iff_bijective.mp (bitstep_injective _)) _

theorem prim_pass_down (r : Half) : prim r 0x00#8 = prim (r &&& 0x00FF#16) 0x00#8 ^^^ (r >>> 8) := by
  have hhigh : (r &&& 0x00FF#16) >>> 8 = 0#16 := by simp [BitVec.ushiftRight_and_distrib]
  have hlow : (r &&& 0x00FF#16).extractLsb' 0 8 = r.extractLsb' 0 8 := by
    rw [BitVec.extractLsb'_and]
    exact BitVec.and_allOnes
  rw [prim_eq_shift_xor, prim_eq_shift_xor (r &&& _), hhigh, hlow, BitVec.zero_xor, BitVec.zero_xor,
    BitVec.xor_comm]

theorem prim_self_cancel (r : Half) : prim r (r.extractLsb' 0 8) = r >>> 8 := by
  rw [prim_eq_shift_xor, BitVec.xor_self]
  exact BitVec.xor_zero

/-- Settles O42: linearity, the byte's XOR into the low byte, and the bit-serial steps, which can be undone. -/
theorem primitiveLaws : Obligations.PrimitiveLaws :=
  ⟨prim_xorLinear, rfl, prim_eq_prim_zero, prim_pass_down, prim_self_cancel, prim_bijective, by decide, rfl⟩

/-! ### The stages -/

/-- Settles O44: the feed stage is the reflector unless refin. -/
theorem feedStage : Obligations.FeedStage := ⟨feed_true, feed_false, fun b _ => getLsbD_reflect8 b⟩

theorem xor_involutive (x : Half) : Function.Involutive (· ^^^ x) := fun v => by simp

theorem finish_bijective (o : Bool) (x : Half) : Function.Bijective (finish o x) := by
  cases o
  case false => exact (xor_involutive x).bijective.comp reflect16_involutive.bijective
  case true => exact (xor_involutive x).bijective

/-- Settles O45: each value of refout by its lemma, and the stage as a composition of involutions. -/
theorem finalizeStage : Obligations.FinalizeStage := ⟨finish_false, finish_true, finish_bijective⟩

theorem foldBytes_bijective (r : Bool) (m : List Byte) : Function.Bijective (foldBytes r · m) :=
  foldl_bijective (fun b => prim_bijective (feed r b)) m

theorem initValue_ne_iff (refin : Bool) (init : Half) :
    initValue .always refin init ≠ initValue .onRefin refin init ↔ refin = false ∧ reflect16 init ≠ init := by
  cases refin <;> simp

/-- Settles O43: the stages after the init stage are a bijection, so they keep the policies' difference. -/
theorem initPoliciesDifferExactlyWhere : Obligations.InitPoliciesDifferExactlyWhere := by
  have hbij (a : Algorithm) (m : List Byte) :
      Function.Bijective fun v : Half => finish a.refout a.xorout (foldBytes a.refin v m) :=
    (finish_bijective a.refout a.xorout).comp (foldBytes_bijective a.refin m)
  refine ⟨initValue_ne_iff, hbij, fun a m hrefin hinit => ?_, by decide⟩
  exact (hbij a m).injective.ne ((initValue_ne_iff a.refin a.init).mpr ⟨hrefin, hinit⟩)

/-- Settles O46: each stage evaluated on the rule's input. -/
theorem workedExamples : Obligations.WorkedExamples := ⟨rfl, rfl, rfl, rfl, rfl⟩

end Sys2Proof.Machine
end

section
/-! SUPPORT. NOP and the configuration commands (spec/41_configuration.md): what a configuration command does as a
function of the state, the words of these commands, that nothing reads CFG_CHECK or CFG_RESIDUE, and the catalog. -/

namespace Sys2Proof.Machine

variable {s t : State} {i j : Instr}

/-! ### Sequences of commands' words -/

/-- A command's word runs that command, then the rest from where it left the engine. -/
theorem acceptWords_encode_cons (he : Effect s i t) (ws : List CmdWord) :
    acceptWords (encode i :: ws) s = acceptWords ws t :=
  acceptWords_cons _ ws s t ((acceptWord_command _ s i (decode_encode i)).trans (exec_eq_next_iff.mpr he))

/-! ### What a configuration command does -/

/-- The register writes of a configuration command (R131); any other command writes no configuration register. -/
def State.configure (s : State) : Instr → State
  | .setinit v => s.writeInit v
  | .setxorout v => s.writeXorout v
  | .setflags i o => s.writeFlags i o
  | .setcheck v => s.writeCheck v
  | .setresidue v => s.writeResidue v
  | _ => s

/-- A configuration command does its writes and no more, in any state (R131). -/
theorem effect_configure (s : State) (hi : isConfiguration i = true) : Effect s i (s.configure i) := by
  cases i with
  | setinit v => exact .setinit v
  | setxorout v => exact .setxorout v
  | setflags i o => exact .setflags i o
  | setcheck v => exact .setcheck v
  | setresidue v => exact .setresidue v
  | nop | start | update | final => cases hi

theorem State.configure_frame (s : State) (i : Instr) :
    { s with cfgInit := (s.configure i).cfgInit, cfgXorout := (s.configure i).cfgXorout,
             cfgRefin := (s.configure i).cfgRefin, cfgRefout := (s.configure i).cfgRefout,
             cfgCheck := (s.configure i).cfgCheck, cfgResidue := (s.configure i).cfgResidue } = s.configure i := by
  cases i <;> rfl

/-- Commands with different opcodes write different registers, so the order of the writes is not seen. -/
theorem State.configure_comm (s : State) (h : i.opcode ≠ j.opcode) :
    (s.configure i).configure j = (s.configure j).configure i := by
  cases i with
  | setinit v =>
    cases j with
    | setinit w => exact absurd rfl h
    | _ => rfl
  | setxorout v =>
    cases j with
    | setxorout w => exact absurd rfl h
    | _ => rfl
  | setflags r o =>
    cases j with
    | setflags r' o' => exact absurd rfl h
    | _ => rfl
  | setcheck v =>
    cases j with
    | setcheck w => exact absurd rfl h
    | _ => rfl
  | setresidue v =>
    cases j with
    | setresidue w => exact absurd rfl h
    | _ => rfl
  | nop | start | update | final => rfl

theorem State.configure_configure_self (s : State) (i : Instr) : (s.configure i).configure i = s.configure i := by
  cases i <;> rfl

/-- Two configuration commands' words in a row do the two commands' writes. -/
theorem acceptWords_configure_pair (s : State) (hi : isConfiguration i = true) (hj : isConfiguration j = true) :
    acceptWords [encode i, encode j] s = .next ((s.configure i).configure j) := by
  rw [acceptWords_encode_cons (effect_configure s hi), acceptWords_encode_cons (effect_configure _ hj), acceptWords_nil]

/-- Settles O24: the frame, the commutation and the idempotence of the writes. -/
theorem configurationCommandsCommute : Obligations.ConfigurationCommandsCommute := by
  refine ⟨fun i s hi => ?_, fun i j s hi hj hop => ?_, fun i s hi => ?_⟩
  · exact ⟨s.configure i, exec_eq_next_iff.mpr (effect_configure s hi), s.configure_frame i⟩
  · rw [acceptWords_configure_pair s hi hj, acceptWords_configure_pair s hj hi, s.configure_comm hop]
  · rw [acceptWords_configure_pair s hi hi, s.configure_configure_self,
      acceptWords_encode_cons (effect_configure s hi), acceptWords_nil]

/-! ### The words of NOP and the configuration commands -/

/-- A word of a defined opcode with a bit set under that opcode's mask is refused (R78). -/
theorem decode_of_reservedMask {w : CmdWord} {op : Nat} (hop : op < 9) (hw : w >>> 28 = BitVec.ofNat 32 op)
    (hm : w &&& reservedMask op ≠ 0#32) : decode w = .error .reservedBits := by
  have hnat : (w >>> 28).toNat = op := by
    rw [hw, BitVec.toNat_ofNat]
    omega
  have hdef : opcodeDefined w = true := by simp [opcodeDefined, hnat, hop]
  exact (reservedBitsAreRefused.1 w hdef).mpr (by simpa [reservedClear, hnat] using hm)

/-- A command's word from its opcode in place (R71). -/
theorem encode_eq_pattern_or {p : CmdWord} (hp : i.opcode.setWidth 32 <<< 28 = p) :
    encode i = p ||| i.imm.setWidth 32 := by rw [encode, hp]

/-- Settles O18: NOP's encoding is zero, and every other bit below its opcode is reserved. -/
theorem nopChangesNothing : Obligations.NopChangesNothing :=
  ⟨fun _ => rfl, fun _ => decode_eq_command_iff.trans eq_comm,
    fun _ => decode_of_reservedMask (op := 0) (by decide)⟩

/-- SETFLAGS' word, its operands placed in the word instead of in IMM (R73). -/
theorem encode_setflags : ∀ i o : Bool, encode (.setflags i o) =
    0x30000000#32 ||| ((BitVec.ofBool o).setWidth 32 <<< 1) ||| (BitVec.ofBool i).setWidth 32 := by decide

/-- Settles O21: a write of both flags, and the words of layout F. -/
theorem setflagsWritesBothFlags : Obligations.SetflagsWritesBothFlags :=
  ⟨fun _ _ _ => rfl, fun i o => encode_setflags i o ▸ decode_encode _,
    fun _ => decode_of_reservedMask (op := 3) (by decide)⟩

/-- Settles O19: for the example, START reflects what SETINIT stored as it stands (R111). -/
theorem setinitWritesCfgInit : Obligations.SetinitWritesCfgInit := by
  refine ⟨fun _ _ => rfl, fun v => decode_eq_command_iff.mpr (encode_eq_pattern_or (by simp [Instr.opcode])),
    fun _ => decode_of_reservedMask (op := 1) (by decide), fun s hrefin => ?_⟩
  have hvalue : (s.writeInit 0xC6C6#16).initStage = 0x6363#16 := by
    rw [State.initStage, State.writeInit_cfgRefin, hrefin, initValue_refin, State.writeInit_cfgInit]
    decide
  exact ⟨_, (acceptWords_encode_cons (.setinit 0xC6C6#16) _).trans (acceptWords_encode_cons .start _), rfl, hvalue⟩

/-- Settles O20: START copies the new CFG_XOROUT into the snapshot that FINAL's finalize stage reads (R31, R114). -/
theorem setxoroutWritesCfgXorout : Obligations.SetxoroutWritesCfgXorout := by
  have hword (v : Half) : encode (.setxorout v) = 0x20000000#32 ||| v.setWidth 32 :=
    encode_eq_pattern_or (by simp [Instr.opcode])
  refine ⟨fun _ _ => rfl, fun v => decode_eq_command_iff.mpr (hword v),
    fun _ => decode_of_reservedMask (op := 2) (by decide), fun v s => ?_⟩
  rw [← hword]
  exact ⟨_, (acceptWords_encode_cons (.setxorout v) _).trans
    ((acceptWords_encode_cons .start _).trans (acceptWords_encode_cons (.final rfl) _)), rfl⟩

/-! ### CFG_CHECK and CFG_RESIDUE -/

theorem State.recordError_writeCheck_writeResidue (s : State) (e : Cause) (c r : Half) :
    ((s.writeCheck c).writeResidue r).recordError e = ((s.recordError e).writeCheck c).writeResidue r := by
  rw [State.recordError_eq, s.recordError_eq]
  rfl

/-- No command's effect reads CFG_CHECK or CFG_RESIDUE (R138, R140): with other values there it differs in those
registers only, and in each only where its value before did. -/
theorem Effect.of_checkAndResidue (he : Effect s i t) (c r : Half) :
    ∃ c' r', Effect ((s.writeCheck c).writeResidue r) i ((t.writeCheck c').writeResidue r') ∧
      (c = s.cfgCheck → c' = t.cfgCheck) ∧ (r = s.cfgResidue → r' = t.cfgResidue) := by
  cases he with
  | nop => exact ⟨c, r, .nop, id, id⟩
  | setinit v => exact ⟨c, r, .setinit v, id, id⟩
  | setxorout v => exact ⟨c, r, .setxorout v, id, id⟩
  | setflags i o => exact ⟨c, r, .setflags i o, id, id⟩
  | setcheck v => exact ⟨v, r, .setcheck v, fun _ => rfl, id⟩
  | setresidue v => exact ⟨c, v, .setresidue v, id, fun _ => rfl⟩
  | start => exact ⟨c, r, .start, id, id⟩
  | update b ha => exact ⟨c, r, .update b ha, id, id⟩
  | final ha => exact ⟨c, r, .final ha, id, id⟩
  | noDigest hi ha =>
    refine ⟨c, r, ?_, by simp, by simp⟩
    rw [← s.recordError_writeCheck_writeResidue]
    exact .noDigest hi ha

theorem acceptWord_of_checkAndResidue {w : CmdWord} (h : acceptWord w s = .next t) (c r : Half) :
    ∃ c' r', acceptWord w ((s.writeCheck c).writeResidue r) = .next ((t.writeCheck c').writeResidue r') ∧
      (c = s.cfgCheck → c' = t.cfgCheck) ∧ (r = s.cfgResidue → r' = t.cfgResidue) := by
  obtain ⟨i, hd, he⟩ | ⟨e, hd, rfl⟩ := acceptWord_effect h
  · obtain ⟨c', r', he', hkeep⟩ := he.of_checkAndResidue c r
    exact ⟨c', r', (acceptWord_command w _ i hd).trans (exec_eq_next_iff.mpr he'), hkeep⟩
  · refine ⟨c, r, ?_, by simp, by simp⟩
    rw [acceptWord_error w _ e hd, s.recordError_writeCheck_writeResidue]

/-- Settles O22: another CFG_CHECK beside the same CFG_RESIDUE, for what no word reads. -/
theorem setcheckWritesCfgCheck : Obligations.SetcheckWritesCfgCheck := by
  refine ⟨fun _ _ => rfl, fun v => decode_eq_command_iff.mpr (encode_eq_pattern_or (by simp [Instr.opcode])),
    fun _ => decode_of_reservedMask (op := 4) (by decide), fun w v s t h => ?_⟩
  obtain ⟨c, r, hw, -, hr⟩ := acceptWord_of_checkAndResidue h v s.cfgResidue
  obtain rfl := hr rfl
  exact ⟨c, hw⟩

/-- Settles O23: another CFG_RESIDUE beside the same CFG_CHECK, for what no word reads. -/
theorem setresidueWritesCfgResidue : Obligations.SetresidueWritesCfgResidue := by
  refine ⟨fun _ _ => rfl, fun v => decode_eq_command_iff.mpr (encode_eq_pattern_or (by simp [Instr.opcode])),
    fun _ => decode_of_reservedMask (op := 5) (by decide), fun w v s t h => ?_⟩
  obtain ⟨c, r, hw, hc, -⟩ := acceptWord_of_checkAndResidue h s.cfgCheck v
  obtain rfl := hc rfl
  exact ⟨r, hw⟩

/-! ### The catalog -/

/-- The two init policies give one message function where init is reflected anyway or is its own reflection. -/
theorem crc_eq_crc_onRefin {a : Algorithm} (h : a.refin = true ∨ reflect16 a.init = a.init) (p : InitReflect)
    (m : List Byte) : crc p a m = crc .onRefin a m := by
  have hinit : initValue p a.refin a.init = initValue .onRefin a.refin a.init := by
    cases p with
    | onRefin => rfl
    | always =>
      by_contra hne
      obtain ⟨hrefin, hpal⟩ := (initValue_ne_iff a.refin a.init).mp hne
      simp [hrefin, hpal] at h
  rw [crc, crc, hinit]

set_option maxRecDepth 1000 in
theorem catalog_check_onRefin : ∀ r ∈ catalog, crc .onRefin r.2 checkString = r.2.check := by decide

/-- Settles O53: no row of the catalog depends on the init policy, and each row is evaluated under one of them. -/
theorem catalogMeetsItsCheckValues : Obligations.CatalogMeetsItsCheckValues := by
  have hpolicy : ∀ r ∈ catalog, r.2.refin = true ∨ reflect16 r.2.init = r.2.init := by decide
  exact fun p r hr => (crc_eq_crc_onRefin (hpolicy r hr) p checkString).trans (catalog_check_onRefin r hr)

end Sys2Proof.Machine
end

section
/-! SUPPORT. The digest commands (spec/42_digest.md): steps and edges that answer, START, UPDATE and FINAL one by one,
digests as sequences of words, and the MSB-first register that an unreflected digest mirrors. -/

namespace Sys2Proof.Machine

variable {s t : State}

/-! ### Steps and edges -/

/-- Settles O10: the edge is taken off the port and its word accepted. -/
theorem stepRunsTheDecodedCommand : Obligations.StepRunsTheDecodedCommand := by
  intro s e es i hp hr hv hd
  rw [step_edge s e es hp, clockEdge_command e _ hr hv, acceptWord_command _ _ i hd]
  rfl

/-- Every edge answers: reset, an accepted word or an idle edge (R68, R150). -/
theorem clockEdge_next (e : Edge) (s : State) : ∃ t, clockEdge e s = .next t := by
  cases hr : e.rst with
  | true => exact ⟨_, clockEdge_reset e s hr⟩
  | false =>
    cases hv : e.cmdValid with
    | true => exact clockEdge_command e s hr hv ▸ acceptWord_next e.cmdData s
    | false => exact ⟨s, clockEdge_idle e s hr hv⟩

/-- Settles O16: a step is an idle one or that of its edge. -/
theorem everyWordAndEveryEdgeAnswers : Obligations.EveryWordAndEveryEdgeAnswers := by
  refine ⟨acceptWord_next, fun s => ?_⟩
  cases hp : s.port with
  | nil => exact ⟨s, step_idle s hp⟩
  | cons e es => exact step_edge s e es hp ▸ clockEdge_next e (s.withPort es)

/-! ### START -/

/-- Settles O25: the init stage spelled out, START's encoding, and the example by reflection of CFG_INIT. -/
theorem startBeginsADigest : Obligations.StartBeginsADigest := by
  refine ⟨fun _ => rfl, fun _ => decode_eq_command_iff.trans eq_comm,
    fun _ => decode_of_reservedMask (op := 6) (by decide), fun s hinit hrefin => ⟨_, rfl, ?_, rfl⟩⟩
  have hvalue : s.initStage = 0x6363#16 := by
    rw [State.initStage, hinit, hrefin, initValue_refin]
    decide
  exact hvalue

/-- Settles O26: START overwrites each register in which the two states differ. -/
theorem startForgetsTheRunningDigest : Obligations.StartForgetsTheRunningDigest := by
  intro s t h
  refine ⟨_, rfl, ?_, rfl, rfl⟩
  rw [← h]
  rfl

/-! ### Digests as sequences of words -/

/-- UPDATE's word from its opcode in place and its byte, which is R81's word of the byte (R74). -/
theorem encode_update (b : Byte) : encode (.update b) = 0x70000000#32 ||| b.setWidth 32 := by
  rw [← (names_update b).asmWord_eq, asmWord, BitVec.ofNat_toNat]

/-- With a digest active the UPDATEs of a message fold it into VALUE and do nothing else (R154). -/
theorem acceptWords_updates (ha : s.active = true) (m : List Byte) :
    acceptWords (m.map fun b => encode (.update b)) s =
      .next (s.writeValue (foldBytes s.actRefin s.value m)) := by
  induction m generalizing s with
  | nil => rfl
  | cons b m ih =>
    rw [List.map_cons, acceptWords_encode_cons (.update b ha), ih (s := s.writeValue (s.foldStage b)) ha]
    rfl

/-- START and the UPDATEs of a message leave the digest active, VALUE at the fold from the init stage. -/
theorem acceptWords_start_updates (s : State) (m : List Byte) :
    acceptWords (encode .start :: m.map fun b => encode (.update b)) s =
      .next ((s.writeValue (foldBytes s.cfgRefin s.initStage m)).takeSnapshot.markStarted) := by
  rw [acceptWords_encode_cons .start, acceptWords_updates rfl]
  rfl

/-- START, the UPDATEs of a message and FINAL, the next state whole (R160). -/
theorem acceptWords_digest (s : State) (m : List Byte) :
    acceptWords (encode .start :: (m.map (fun b => encode (.update b)) ++ [encode .final])) s = .next { s with
      value := foldBytes s.cfgRefin (initValue s.pInitReflect s.cfgRefin s.cfgInit) m,
      result := crc s.pInitReflect s.algorithm m,
      actRefin := s.cfgRefin, actRefout := s.cfgRefout, actXorout := s.cfgXorout,
      active := false, rvalid := true } := by
  rw [← List.cons_append, acceptWords_append _ _ _ _ (acceptWords_start_updates s m),
    acceptWords_encode_cons (.final rfl)]
  rfl

theorem checksumWords_eq (m : List Byte) :
    checksumWords m = encode .start :: (m.map (fun b => encode (.update b)) ++ [encode .final]) := by
  simp only [encode_update]
  rfl

/-- Settles O48: the words are those of the commands. -/
theorem checksumSequenceComputesCrc : Obligations.ChecksumSequenceComputesCrc := fun s m =>
  checksumWords_eq m ▸ acceptWords_digest s m

/-- Settles O52: each RESULT is the message function, which reads the four registers and the build. -/
theorem equalConfigurationsGiveEqualResults : Obligations.EqualConfigurationsGiveEqualResults := by
  intro s s' m hinit hrefin hrefout hxorout hbuild
  refine ⟨_, _, checksumSequenceComputesCrc s m, checksumSequenceComputesCrc s' m, ?_⟩
  simp only [crc, State.algorithm, hinit, hrefin, hrefout, hxorout, hbuild]

/-- START directly followed by FINAL finalizes the init stage (R157, R162). -/
theorem acceptWords_start_final (s : State) : ∃ t, acceptWords [0x60000000#32, 0x80000000#32] s = .next t ∧
    t.result = finish s.cfgRefout s.cfgXorout (initValue s.pInitReflect s.cfgRefin s.cfgInit) :=
  ⟨_, acceptWords_digest s [], rfl⟩

/-- Settles O51: the digest of no byte, and the pinned value in each build. -/
theorem emptyMessage : Obligations.EmptyMessage := by
  have hpal : reflect16 0xFFFF#16 = 0xFFFF#16 := by decide
  refine ⟨acceptWords_start_final, fun p => ?_⟩
  cases p <;> simp [hpal]

/-- Settles O50: the chunks' UPDATEs are those of the whole message. -/
theorem chunkingIsInvisible : Obligations.ChunkingIsInvisible := by
  refine ⟨fun s chunks ha => ?_, fun s chunks => ?_⟩ <;> rw [← List.map_flatten]
  · exact acceptWords_updates ha chunks.flatten
  · exact ⟨_, acceptWords_digest s chunks.flatten, rfl, rfl, rfl, rfl⟩

/-! ### UPDATE and FINAL -/

/-- Without a digest, UPDATE and FINAL set the record unless it is set, and change nothing else (R201). -/
theorem exec_inactive_eq {i : Instr} (s : State) (hi : i = .final ∨ ∃ b, i = .update b) (ha : s.active = false) :
    exec i s = .next { s with err := true, errCause := if s.err then s.errCause else 0x3#4 } := by
  rw [exec_inactive s hi ha, State.recordError_eq]
  rfl

theorem exec_update_of_foldStage {b : Byte} {v : Half} (ha : s.active = true) (hv : s.foldStage b = v) :
    exec (.update b) s = .next (s.writeValue v) := hv ▸ exec_update_active b s ha

theorem prim_zero_feed_zero (r : Bool) : prim 0x0000#16 (feed r 0x00#8) = 0x0000#16 := by
  cases r <;> decide

/-- Settles O27: the fold stage spelled out, evaluated in each corner case. -/
theorem updateFoldsOneByte : Obligations.UpdateFoldsOneByte := by
  refine ⟨fun b s => exec_update_active b s, fun b s => exec_inactive_eq s (.inr ⟨b, rfl⟩),
    fun b => decode_eq_command_iff.mpr (encode_update b), fun _ => decode_of_reservedMask (op := 7) (by decide),
    fun s ha hr => exec_update_of_foldStage ha ?_, fun s ha hv => exec_update_of_foldStage (v := s.value) ha ?_,
    fun s ha hv hr => exec_update_of_foldStage ha ?_⟩
  · rw [State.foldStage, hr, feed_true, prim_self_cancel]
  · rw [State.foldStage, hv, prim_zero_feed_zero]
  · rw [State.foldStage, hv, hr]
    decide

/-- Settles O28: the finalize stage spelled out and evaluated for the example, and the digest of no byte. -/
theorem finalProducesTheChecksum : Obligations.FinalProducesTheChecksum := by
  refine ⟨exec_final_active, fun s => exec_inactive_eq s (.inl rfl), fun _ => decode_eq_command_iff.trans eq_comm,
    fun _ => decode_of_reservedMask (op := 8) (by decide), fun s ha hv ho hx => ?_, acceptWords_start_final⟩
  have hresult : s.finalStage = 0x906E#16 := by
    rw [State.finalStage, hv, ho, hx]
    decide
  rw [exec_final_active s ha, hresult]
  rfl

/-! ### Words between START and FINAL -/

/-- With a digest active a word other than START folds the byte it carries, if any, into VALUE (R161). -/
theorem acceptWord_value {w : CmdWord} (ha : s.active = true) (hw : decode w ≠ .command .start)
    (h : acceptWord w s = .next t) : t.value = foldBytes s.actRefin s.value (messageByte w).toList := by
  obtain ⟨i, hd, he⟩ | ⟨c, hd, rfl⟩ := acceptWord_effect h
  · cases he with
    | start => exact absurd hd hw
    | update b _ => simp [messageByte, hd, State.foldStage_eq]
    | noDigest _ hn => simp [ha] at hn
    | _ => simp [messageByte, hd]
  · simp [messageByte, hd]

/-- With a digest active, words other than START and FINAL keep it active and its snapshot, and fold the bytes of the
UPDATEs among them (R161). -/
theorem acceptWords_within_digest (ws : List CmdWord) (ha : s.active = true)
    (hws : ∀ w ∈ ws, decode w ≠ .command .start ∧ decode w ≠ .command .final) :
    ∃ t, acceptWords ws s = .next t ∧ t.active = true ∧ t.actRefin = s.actRefin ∧ t.actRefout = s.actRefout ∧
      t.actXorout = s.actXorout ∧ t.value = foldBytes s.actRefin s.value (ws.filterMap messageByte) := by
  induction ws generalizing s with
  | nil => exact ⟨s, rfl, ha, rfl, rfl, rfl, rfl⟩
  | cons w ws ih =>
    obtain ⟨⟨hstart, hfinal⟩, hrest⟩ := List.forall_mem_cons.mp hws
    obtain ⟨u, hu⟩ := acceptWord_next w s
    obtain ⟨-, -, hsnapshot, hstatus⟩ := acceptWord_digest hu
    obtain ⟨hrefin, hrefout, hxorout⟩ := hsnapshot hstart
    have hactive : u.active = true := (hstatus hstart hfinal).1.trans ha
    obtain ⟨t, ht, hta, htrefin, htrefout, htxorout, htvalue⟩ := ih hactive hrest
    refine ⟨t, (acceptWords_cons w ws s u hu).trans ht, hta, htrefin.trans hrefin, htrefout.trans hrefout,
      htxorout.trans hxorout, ?_⟩
    rw [htvalue, hrefin, acceptWord_value ha hstart hu, ← foldBytes_append]
    simp only [List.filterMap_eq_flatMap_toList, List.flatMap_cons]

/-- Settles O49: FINAL finalizes what the words before it left in VALUE and in the snapshot. -/
theorem interleavedWordsDoNotDisturbADigest : Obligations.InterleavedWordsDoNotDisturbADigest := by
  intro s ws ha hws
  obtain ⟨t, ht, hta, -, hrefout, hxorout, hvalue⟩ := acceptWords_within_digest ws ha hws
  refine ⟨_, (acceptWords_append ws _ s t ht).trans (acceptWords_encode_cons (.final hta) []), hvalue, ?_, rfl, rfl⟩
  rw [← hvalue, ← hrefout, ← hxorout]
  rfl

/-! ### The MSB-first register -/

theorem msbstep_eq (r : Half) (p : Bool) : msbstep r p = (r <<< 1) ^^^ reflect16 (feedback (r.getLsbD 15 ^^ p)) := by
  have hpoly : reflect16 Config.polynomialLsb = Config.polynomial := by decide
  have hzero : reflect16 0#16 = 0#16 := by decide
  rw [msbstep, feedback]
  split
  · rw [hpoly]
  · rw [hzero, BitVec.xor_zero]

theorem reflect16_shiftRight_one (r : Half) : reflect16 (r >>> 1) = reflect16 r <<< 1 := by
  apply BitVec.eq_of_getLsbD_eq
  intro i hi
  rw [getLsbD_reflect16 _ hi, BitVec.getLsbD_ushiftRight, BitVec.getLsbD_shiftLeft]
  cases i with
  | zero => simp
  | succ j =>
    rw [Nat.add_sub_cancel, getLsbD_reflect16 r (by omega), show 1 + (15 - (j + 1)) = 15 - j by omega]
    simp [hi]

/-- One LSB-first step, seen in the mirror, is one MSB-first step (R105, R166). -/
theorem reflect16_bitstep (r : Half) (p : Bool) : reflect16 (bitstep r p) = msbstep (reflect16 r) p := by
  have hbit : (reflect16 r).getLsbD 15 = r.getLsbD 0 := getLsbD_reflect16 r (by omega)
  rw [bitstep_eq, msbstep_eq, reflect16_xor, reflect16_shiftRight_one, hbit]

theorem reflect16_foldl_bitstep (d : Byte) (l : List Nat) (r : Half) :
    reflect16 (l.foldl (fun r i => bitstep r (d.getLsbD i)) r) =
      l.foldl (fun r i => msbstep r (d.getLsbD i)) (reflect16 r) :=
  (List.foldl_hom reflect16 fun r i => (reflect16_bitstep r (d.getLsbD i)).symm).symm

/-- Eight steps on a reflected byte, seen in the mirror, are eight MSB-first steps on the byte. -/
theorem reflect16_prim (v : Half) (b : Byte) : reflect16 (prim v (feed false b)) = msbserial8 (reflect16 v) b := by
  rw [feed_false, prim_eq_bitserial8, bitserial8, reflect16_foldl_bitstep]
  refine List.foldl_ext _ _ _ fun r i hi => ?_
  rw [getLsbD_reflect8 b (List.mem_range.mp hi)]

theorem reflect16_foldBytes (v : Half) (m : List Byte) :
    reflect16 (foldBytes false v m) = m.foldl msbserial8 (reflect16 v) :=
  (List.foldl_hom reflect16 fun r b => (reflect16_prim r b).symm).symm

/-- Where the init stage loads the reflection of an unreflected digest's init (R111). -/
theorem initValue_eq_reflect16_iff (p : InitReflect) (init : Half) :
    initValue p false init = reflect16 init ↔ p = .always ∨ reflect16 init = init := by
  cases p <;> simp [eq_comm]

theorem reflect16_initValue_eq_iff (p : InitReflect) (init : Half) :
    reflect16 (initValue p false init) = init ↔ p = .always ∨ reflect16 init = init := by
  rw [← initValue_eq_reflect16_iff, reflect16_involutive.eq_iff]

/-- A fold can be undone, so it mirrors the MSB-first register exactly when it started mirrored. -/
theorem reflect16_foldBytes_eq_iff (v r : Half) (m : List Byte) :
    reflect16 (foldBytes false v m) = m.foldl msbserial8 r ↔ reflect16 v = r := by
  have hr : m.foldl msbserial8 r = reflect16 (foldBytes false (reflect16 r) m) := by
    rw [reflect16_foldBytes, reflect16_involutive]
  rw [hr, reflect16_involutive.injective.eq_iff, (foldBytes_bijective false m).injective.eq_iff,
    reflect16_involutive.eq_iff]

/-- Settles O47: the mirror step by step, and the start, which the folds keep. -/
theorem unreflectedDigestMirrorsMsbFirstUnderAlwaysOrPalindrome :
    Obligations.UnreflectedDigestMirrorsMsbFirstUnderAlwaysOrPalindrome := by
  refine ⟨reflect16_prim, reflect16_foldBytes, fun init => (reflect16_initValue_eq_iff _ init).mpr (.inl rfl),
    fun p init h => (reflect16_initValue_eq_iff p init).mpr (.inr h), fun init h => ?_, fun s m hrefin => ?_⟩
  · simpa using h
  · simp only [← encode_update]
    refine ⟨_, acceptWords_start_updates s m, ?_⟩
    have hvalue : ((s.writeValue (foldBytes s.cfgRefin s.initStage m)).takeSnapshot.markStarted).value =
        foldBytes false (initValue s.pInitReflect false s.cfgInit) m := by
      simp [State.initStage, hrefin]
    rw [hvalue, reflect16_foldBytes_eq_iff, reflect16_initValue_eq_iff]

end Sys2Proof.Machine
end

section
/-! SUPPORT. Command errors (spec/60_exceptions.md): the two commands that need a digest, by their opcode, which words
raise which cause in an engine whose record is clear, and what a misused UPDATE or FINAL does. -/

namespace Sys2Proof.Machine

variable {s t : State} {i : Instr}

/-- The opcodes of the two commands that need a digest (R75, R201). -/
theorem opcode_eq_seven_or_eight_iff :
    (i.opcode.toNat = 7 ∨ i.opcode.toNat = 8) ↔ i = .final ∨ ∃ b, i = .update b := by
  cases i <;> simp [Instr.opcode]

/-- NO_DIGEST is a command's only error, so without it the record is as it was (R200, R201). -/
theorem Effect.record_unchanged (he : Effect s i t)
    (hi : ¬((i.opcode.toNat = 7 ∨ i.opcode.toNat = 8) ∧ s.active = false)) :
    t.err = s.err ∧ t.errCause = s.errCause := by
  cases he with
  | noDigest hd ha => exact absurd ⟨opcode_eq_seven_or_eight_iff.mpr hd, ha⟩ hi
  | _ => exact ⟨rfl, rfl⟩

/-- The first error since reset sets ERR and the code of its cause, which is not NONE's (R35, R200). -/
theorem State.recordError_of_clear (he : s.err = false) (c : Cause) :
    (s.recordError c).errCause = causeCode c ∧
      ((s.recordError c).err = true ↔ (s.recordError c).errCause ≠ 0x0#4) := by
  rw [s.recordError_of_noErr c he]
  exact ⟨rfl, by cases c <;> simp [causeCode]⟩

/-- Settles O30: a reserved opcode, a reserved bit, or a command, which raises NO_DIGEST or leaves the record clear. -/
theorem causesAreRaisedExactlyWhere : Obligations.CausesAreRaisedExactlyWhere := by
  intro w s he hc
  rw [shift_eq_opField]
  obtain ⟨ho, hd⟩ | ⟨ho, hr, hd⟩ | ⟨i, rfl, hd⟩ := decode_cases w
  · rw [if_pos ho]
    exact ⟨_, acceptWord_error w s _ hd, State.recordError_of_clear he _⟩
  · rw [if_neg (Nat.not_le.mpr ho), if_pos hr]
    exact ⟨_, acceptWord_error w s _ hd, State.recordError_of_clear he _⟩
  · obtain ⟨ho, hr⟩ := wellFormedWord_eq_true_iff.mp (encodedRow i).1
    rw [if_neg (Nat.not_le.mpr ho), if_neg (by simp [hr]), opField_encode, acceptWord_command _ s i hd]
    by_cases hi : (i.opcode.toNat = 7 ∨ i.opcode.toNat = 8) ∧ s.active = false
    · obtain ⟨hop, ha⟩ := hi
      rw [if_pos ⟨hop, ha⟩]
      exact ⟨_, exec_inactive s (opcode_eq_seven_or_eight_iff.mp hop) ha, State.recordError_of_clear he _⟩
    · rw [if_neg hi]
      obtain ⟨t, ht⟩ := exec_next i s
      obtain ⟨hterr, htcause⟩ := (exec_eq_next_iff.mp ht).record_unchanged hi
      exact ⟨t, ht, htcause.trans hc, by simp [hterr, he, htcause, hc]⟩

/-- Settles O31: a well-formed word is a command's, these opcodes are UPDATE's and FINAL's, and recording NO_DIGEST
touches nothing but the record. -/
theorem misuseIsRecordedAndIgnored : Obligations.MisuseIsRecordedAndIgnored := by
  intro w s hw hop ha
  obtain ⟨i, rfl⟩ := wellFormedWord_iff_exists.mp hw
  have hnat : i.opcode.toNat = 7 ∨ i.opcode.toNat = 8 := by
    rw [← opField_encode, ← shift_eq_opField]
    exact hop.imp (congrArg BitVec.toNat) (congrArg BitVec.toNat)
  have hexec := exec_inactive s (opcode_eq_seven_or_eight_iff.mp hnat) ha
  exact ⟨_, (acceptWord_command _ s i (decode_encode i)).trans hexec, (s.recordError_active _).trans ha,
    s.recordError_err _, s.recordError_errCause _, s.agreeButError_recordError _⟩

end Sys2Proof.Machine
end

section
/-! SUPPORT. Reset (spec/70_reset_and_hazards.md): the reset edge, the reset configuration as the catalog's XMODEM row,
and the reset state as a reset engine with nothing to come on its port. -/

namespace Sys2Proof.Machine

/-- Reset changes nothing in an engine that holds its reset values, so its reset state is the one reset leaves. -/
@[simp] theorem State.applyReset_resetWith (p : InitReflect) : (State.resetWith p).applyReset = State.resetWith p := rfl

@[simp] theorem State.algorithm_resetWith (p : InitReflect) :
    (State.resetWith p).algorithm = Config.resetAlgorithm := rfl

/-- The reset configuration is the catalog's row of XMODEM (R231). -/
theorem xmodem_resetAlgorithm_mem_catalog : (["xmodem", "lora"], Config.resetAlgorithm) ∈ catalog := List.mem_cons_self

/-- Settles O13: the edge is taken off the port, and its reset is chosen before its command is looked at. -/
theorem resetEdgeGivesResetValues : Obligations.ResetEdgeGivesResetValues := by
  intro s e es hp hr
  rw [step_edge s e es hp, clockEdge_reset e _ hr]
  rfl

/-- Settles O14: the RESULT is the reset configuration's message function, and the catalog's rows meet their check
values in both builds. -/
theorem resetConfigurationIsXmodem : Obligations.ResetConfigurationIsXmodem := by
  have hcheck (p : InitReflect) : crc p Config.resetAlgorithm checkString = 0x31C3#16 :=
    catalogMeetsItsCheckValues p _ xmodem_resetAlgorithm_mem_catalog
  exact ⟨State.algorithm_resetWith _, fun p => ⟨State.algorithm_resetWith p, _,
    checksumSequenceComputesCrc (State.resetWith p) checkString, hcheck p⟩⟩

/-- Settles O15: the reset state is a literal of these values. -/
theorem resetStateHoldsTheSpecsValues : Obligations.ResetStateHoldsTheSpecsValues :=
  ⟨rfl, rfl, rfl, rfl, rfl, rfl, rfl, rfl, rfl, rfl, rfl⟩

theorem State.resetWith_inv (p : InitReflect) : (State.resetWith p).Inv :=
  State.applyReset_resetWith p ▸ State.applyReset_inv (State.resetWith p)

/-- Settles O55: a reset edge leaves the invariant, and the reset state is what one leaves. -/
theorem resetMeetsTheInvariant : Obligations.ResetMeetsTheInvariant :=
  ⟨State.resetWith_inv Config.defaultInitReflect, State.resetWith_inv⟩

end Sys2Proof.Machine
end
